-- ==== Sys2Proof/Word.lean ====
section
/-! DEFINITION. The widths of the block: bytes, register words and command words (spec/00_scope.md R7, R9;
spec/30_encoding.md R64). Bit 0 is the least significant bit; every value is unsigned. -/

namespace Sys2Proof

/-- The 8-bit value of `SEND_BYTE` and the profile index of `APPLY_PROFILE` (R67). -/
abbrev Byte := BitVec 8

/-- A 32-bit Register Word, or the 32-bit count of a delay (R7, R67). -/
abbrev Word := BitVec 32

/-- A 40-bit command word: the opcode in bits 39 to 32, the operand field in bits 31 to 0 (R64). -/
abbrev CmdWord := BitVec 40

end Sys2Proof
end

