-- ==== Sys2Proof/Config.lean ====
section
/-! DEFINITION. What a build of the block fixes: the contents of the profile store (spec/10_state.md R29, R30;
spec/00_scope.md R7). Every statement about the block is over an arbitrary store, which State carries; the store named
here is only the one State.reset holds (log entry 1). -/

namespace Sys2Proof

/-- A Frequency Profile: exactly six 32-bit Register Words, reg0 to reg5 (R29). -/
structure Profile where
  reg0 : Word
  reg1 : Word
  reg2 : Word
  reg3 : Word
  reg4 : Word
  reg5 : Word
deriving DecidableEq, Repr

/-- The one profile the source gives, TEST_700M (spec/95_test_vectors.md E1; R111). -/
def Config.test700M : Profile :=
  { reg0 := 0x80700000#32, reg1 := 0x200303E9#32, reg2 := 0x00010042#32,
    reg3 := 0x00000133#32, reg4 := 0x61BF42FC#32, reg5 := 0x01400005#32 }

/-- The store State.reset holds. DESIGN CHOICE, log entry 1 (unsafe): PROFILES and NUM_PROFILES are OPEN (R7); this is
the store under which the spec writes its test vectors (spec/95_test_vectors.md section 0). -/
def Config.profiles : List Profile := [Config.test700M]

/-- The largest number of profiles a store may hold (R7: NUM_PROFILES is 1 to 256). -/
def Config.maxProfiles : Nat := 256

end Sys2Proof
end

