-- ==== Sys2Proof/Syntax.lean ====
section
/-! DEFINITION. The commands of the block, one constructor for each row of spec/opcode_table.json, with their operands
(spec/30_encoding.md R65 to R72), and the pseudo-instructions of the assembler text (R80). -/

namespace Sys2Proof

/-- A Logic Signal: one of the four output lines (spec/00_scope.md R10; spec/10_state.md R18). -/
inductive Signal where
  | data
  | clock
  | latchEnable
  | chipSelect
deriving DecidableEq, Repr

/-- The level of a line (R10). -/
inductive Level where
  | low
  | high
deriving DecidableEq, Repr

/-- The eight commands (spec/30_encoding.md R66). -/
inductive Instr where
  /-- `SET_SIGNAL line, level` (spec/40_line_driver.md R84). -/
  | setSignal (line : Signal) (level : Level)
  /-- `SEND_BYTE v8` (spec/41_serial_transmit.md R96). -/
  | sendByte (v : Byte)
  /-- `SEND_REGISTER w32` (R104). -/
  | sendRegister (w : Word)
  /-- `OPEN_TXN` (spec/42_transaction.md R114). -/
  | openTxn
  /-- `CLOSE_TXN` (R120). -/
  | closeTxn
  /-- `APPLY_PROFILE k` (spec/43_profile_sequencer.md R128). -/
  | applyProfile (k : Byte)
  /-- `DELAY_US n` (spec/40_line_driver.md R88). -/
  | delayUs (n : Word)
  /-- `DELAY_MS n` (R91). -/
  | delayMs (n : Word)
deriving DecidableEq, Repr

/-- The pseudo-instructions of the assembler text (spec/30_encoding.md R80). They have no opcode of their own. -/
inductive Pseudo where
  | lineIdle
  | pulseLe (n : Word)
  | applyWords (w5 w4 w3 w2 w1 w0 : Word)
deriving DecidableEq, Repr

end Sys2Proof
end

