-- ==== Sys2Proof/WellFormed.lean ====
section
/-! DEFINITION. Which commands are meaningful for a store of a given number of profiles (spec/30_encoding.md R71, R75).
The types of the operands rule out every other ill-formed operand. -/

namespace Sys2Proof

/-- A command is well-formed when its profile index, if it has one, is below NUM_PROFILES (R71). -/
def Instr.wellFormed (numProfiles : Nat) : Instr → Bool
  | .setSignal _ _ => true
  | .sendByte _ => true
  | .sendRegister _ => true
  | .openTxn => true
  | .closeTxn => true
  | .applyProfile k => decide (k.toNat < numProfiles)
  | .delayUs _ => true
  | .delayMs _ => true

/-- A profile store is well-formed when it holds 1 to 256 profiles (spec/00_scope.md R7). -/
def storeWellFormed (store : List Profile) : Bool :=
  decide (1 ≤ store.length) && decide (store.length ≤ Config.maxProfiles)

end Sys2Proof
end

