-- ==== Sys2Proof/Decode.lean ====
section
/-! DEFINITION. The encoding of commands (spec/30_encoding.md): the operand fields, which words are legal, the decoder,
the classification of illegal words (spec/60_exceptions.md R153), the encoder, and the mask and match rows of
spec/opcode_table.json. -/

namespace Sys2Proof

/-! ### Fields of the command word (R64, R65) -/

/-- `OP = cmd[39:32]`. -/
def opField (w : CmdWord) : BitVec 8 := w.extractLsb' 32 8

/-- `ARG = cmd[31:0]`. -/
def argField (w : CmdWord) : Word := w.extractLsb' 0 32

/-- `SIG = ARG[1:0]`. -/
def sigField (w : CmdWord) : BitVec 2 := (argField w).extractLsb' 0 2

/-- `LVL = ARG[2]`. -/
def lvlField (w : CmdWord) : BitVec 1 := (argField w).extractLsb' 2 1

/-- `V8` and `K` are `ARG[7:0]`. -/
def byteField (w : CmdWord) : Byte := (argField w).extractLsb' 0 8

/-- The must-be-zero bits of format S, `ARG[31:3]`. -/
def reservedS (w : CmdWord) : BitVec 29 := (argField w).extractLsb' 3 29

/-- The must-be-zero bits of formats B and K, `ARG[31:8]`. -/
def reservedB (w : CmdWord) : BitVec 24 := (argField w).extractLsb' 8 24

/-! ### Lines and levels (R68) -/

/-- The line a SIG value names. -/
def signalOfCode (c : BitVec 2) : Signal :=
  match c with
  | 0#2 => .data
  | 1#2 => .clock
  | 2#2 => .latchEnable
  | _ => .chipSelect

/-- The SIG value of a line. -/
def Signal.code : Signal → BitVec 2
  | .data => 0#2
  | .clock => 1#2
  | .latchEnable => 2#2
  | .chipSelect => 3#2

/-- The level an LVL value names. -/
def levelOfCode (c : BitVec 1) : Level :=
  match c with
  | 0#1 => .low
  | _ => .high

/-- The LVL value of a level. -/
def Level.code : Level → BitVec 1
  | .low => 0#1
  | .high => 1#1

/-! ### The decoder (R66, R75, R82) -/

/-- The command a word stands for, for a store of `numProfiles` profiles; `none` for an illegal word. -/
def decode (numProfiles : Nat) (w : CmdWord) : Option Instr :=
  match opField w with
  | 0x01#8 => if reservedS w = 0#29 then some (.setSignal (signalOfCode (sigField w)) (levelOfCode (lvlField w))) else none
  | 0x02#8 => if reservedB w = 0#24 then some (.sendByte (byteField w)) else none
  | 0x03#8 => some (.sendRegister (argField w))
  | 0x04#8 => if argField w = 0#32 then some .openTxn else none
  | 0x05#8 => if argField w = 0#32 then some .closeTxn else none
  | 0x06#8 => if reservedB w = 0#24 ∧ (byteField w).toNat < numProfiles then some (.applyProfile (byteField w)) else none
  | 0x07#8 => some (.delayUs (argField w))
  | 0x08#8 => some (.delayMs (argField w))
  | _ => none

/-- `legal(cmd)`, clause by clause as R75 lists it. It is written apart from the decoder so that the two can be compared. -/
def legal (numProfiles : Nat) (w : CmdWord) : Bool :=
  (opField w == 0x01#8 && reservedS w == 0#29)
  || (opField w == 0x02#8 && reservedB w == 0#24)
  || opField w == 0x03#8
  || (opField w == 0x04#8 && argField w == 0#32)
  || (opField w == 0x05#8 && argField w == 0#32)
  || (opField w == 0x06#8 && reservedB w == 0#24 && decide ((byteField w).toNat < numProfiles))
  || opField w == 0x07#8
  || opField w == 0x08#8

/-! ### Why a word is illegal (spec/60_exceptions.md R153, R160) -/

/-- The sub-causes of ILLEGAL_COMMAND (cause code 1). They are held in no register. -/
inductive SubCause where
  /-- 1.1: the opcode is 0x00, or 0x09 or above. -/
  | badOpcode
  /-- 1.2: a legal opcode with a must-be-zero bit set. -/
  | reservedBits
  /-- 1.3: an APPLY_PROFILE whose index is not below NUM_PROFILES. -/
  | indexOutOfRange
deriving DecidableEq, Repr

/-- The cause code and the sub-cause's number (R153). -/
def SubCause.number : SubCause → Nat × Nat
  | .badOpcode => (1, 1)
  | .reservedBits => (1, 2)
  | .indexOutOfRange => (1, 3)

/-- Does the word set a must-be-zero bit of its opcode's format (R65, R77)? -/
def reservedSet (w : CmdWord) : Bool :=
  match opField w with
  | 0x01#8 => reservedS w != 0#29
  | 0x02#8 => reservedB w != 0#24
  | 0x04#8 => argField w != 0#32
  | 0x05#8 => argField w != 0#32
  | 0x06#8 => reservedB w != 0#24
  | _ => false

/-- The sub-cause of an illegal word, in the order bad opcode, reserved bits, index (R160); `none` for a legal word. -/
def illegalCause (numProfiles : Nat) (w : CmdWord) : Option SubCause :=
  if opField w = 0x00#8 ∨ 0x09#8 ≤ opField w then some .badOpcode
  else if reservedSet w then some .reservedBits
  else if opField w = 0x06#8 ∧ numProfiles ≤ (byteField w).toNat then some .indexOutOfRange
  else none

/-! ### The encoder (R64 to R68) -/

/-- The opcode of a command (R66). -/
def Instr.opcode : Instr → BitVec 8
  | .setSignal _ _ => 0x01#8
  | .sendByte _ => 0x02#8
  | .sendRegister _ => 0x03#8
  | .openTxn => 0x04#8
  | .closeTxn => 0x05#8
  | .applyProfile _ => 0x06#8
  | .delayUs _ => 0x07#8
  | .delayMs _ => 0x08#8

/-- The operand field of a command (R65). -/
def Instr.arg : Instr → Word
  | .setSignal s l => 0#29 ++ (l.code ++ s.code)
  | .sendByte v => 0#24 ++ v
  | .sendRegister w => w
  | .openTxn => 0#32
  | .closeTxn => 0#32
  | .applyProfile k => 0#24 ++ k
  | .delayUs n => n
  | .delayMs n => n

/-- The word of a command, `{OP, ARG}`. -/
def encode (i : Instr) : CmdWord := i.opcode ++ i.arg

/-! ### The mask and match rows of spec/opcode_table.json (R83) -/

/-- The mnemonic of a command, as the table spells it. -/
def Instr.mnemonic : Instr → String
  | .setSignal _ _ => "SET_SIGNAL"
  | .sendByte _ => "SEND_BYTE"
  | .sendRegister _ => "SEND_REGISTER"
  | .openTxn => "OPEN_TXN"
  | .closeTxn => "CLOSE_TXN"
  | .applyProfile _ => "APPLY_PROFILE"
  | .delayUs _ => "DELAY_US"
  | .delayMs _ => "DELAY_MS"

/-- A row of the table: its fixed bits are the bits of `mask`. -/
structure OpcodeRow where
  mnemonic : String
  pattern : CmdWord
  mask : CmdWord
deriving DecidableEq, Repr

/-- A word matches a row when `(word AND mask) = match`. -/
def OpcodeRow.matchesWord (r : OpcodeRow) (w : CmdWord) : Bool := w &&& r.mask == r.pattern

/-- The eight rows. -/
def opcodeRows : List OpcodeRow :=
  [ ⟨"SET_SIGNAL", 0x0100000000#40, 0xFFFFFFFFF8#40⟩,
    ⟨"SEND_BYTE", 0x0200000000#40, 0xFFFFFFFF00#40⟩,
    ⟨"SEND_REGISTER", 0x0300000000#40, 0xFF00000000#40⟩,
    ⟨"OPEN_TXN", 0x0400000000#40, 0xFFFFFFFFFF#40⟩,
    ⟨"CLOSE_TXN", 0x0500000000#40, 0xFFFFFFFFFF#40⟩,
    ⟨"APPLY_PROFILE", 0x0600000000#40, 0xFFFFFFFF00#40⟩,
    ⟨"DELAY_US", 0x0700000000#40, 0xFF00000000#40⟩,
    ⟨"DELAY_MS", 0x0800000000#40, 0xFF00000000#40⟩ ]

/-! ### The host's question about one table word -/

/-- The command word the host's numbering stands for: the row's bits, every bit above them 0. -/
def tableWord (nbits w : Nat) : CmdWord := BitVec.ofNat 40 (w % 2 ^ nbits)

/-- What the decoder reads from a word of the opcode table. The table has no store, so the decoder is asked with the
largest store the spec admits (spec/00_scope.md R7), under which the table's mask and match rows alone decide; log entry 4. -/
def decodeTableWord (nbits w : Nat) : Option Instr := decode Config.maxProfiles (tableWord nbits w)

end Sys2Proof
end

