-- ==== Sys2Proof/Machine/State.lean ====
section
/-! DEFINITION. The state of the block, its ghost state, its inputs and the state after reset (spec/10_state.md). State is
plain data. STATUS, BUSY and cmd_ready are views of it (Machine/Flags.lean): R24, R25 and R28 define them from SEQ, the two
stored flags and the lines, so storing them again would only allow states in which they disagree. -/

namespace Sys2Proof.Machine

/-- The levels of the four output lines, `L` (R18). -/
structure Lines where
  data : Level
  clock : Level
  latchEnable : Level
  chipSelect : Level
deriving DecidableEq, Repr

/-- The idle levels, which reset also sets (R39; spec/42_transaction.md R125). -/
def Lines.idle : Lines := { data := .low, clock := .low, latchEnable := .low, chipSelect := .high }

/-- The kinds of wait (spec/00_scope.md R8). `us n` and `ms n` are the host's delays; the others stand only inside the
commands' own sequences (spec/40_line_driver.md R95). -/
inductive WaitKind where
  | setup
  | pulse
  | hold
  | short
  | latch
  | step
  | settle
  | reg5Settle
  | postSettle
  | us (n : Word)
  | ms (n : Word)
deriving DecidableEq, Repr

/-- A micro-operation (R10). -/
inductive MicroOp where
  | drive (s : Signal) (l : Level)
  | wait (k : WaitKind)
deriving DecidableEq, Repr

/-- An event of the trace (R10, R33): a micro-op, an accepted command word, or a reset. -/
inductive Event where
  | op (m : MicroOp)
  | accept (cmd : CmdWord)
  | reset
deriving DecidableEq, Repr

/-- The ghost marks of a broken protocol rule (R36). -/
inductive Violation where
  /-- `V_NEST` -/
  | nest
  /-- `V_CLOSE_IDLE` -/
  | closeIdle
  /-- `V_OUTSIDE_TXN` -/
  | outsideTxn
  /-- `V_DATA_WHILE_CLOCK_HIGH` -/
  | dataWhileClockHigh
deriving DecidableEq, Repr

/-- The set of marks, one bit each, so that equal sets are equal data (R36). -/
structure Violations where
  nest : Bool
  closeIdle : Bool
  outsideTxn : Bool
  dataWhileClockHigh : Bool
deriving DecidableEq, Repr

/-- The empty set of marks. -/
def Violations.none : Violations :=
  { nest := false, closeIdle := false, outsideTxn := false, dataWhileClockHigh := false }

/-- Where the reference host program stands (spec/44_host_control_loop.md R142, R143): which command of its current unit
it issues next. The first three places are `hstate = BRINGUP`, the last two `hstate = ROTATE` with their `hpc`. A place of
BRINGUP holds no `hpc`; what it reads as there is the model's choice (log entry 14). -/
inductive HostPos where
  | powerUp
  | bringupApply
  | bringupDwell
  | rotateApply (hpc : Nat)
  | rotateDwell (hpc : Nat)
deriving DecidableEq, Repr

/-- The reference host program's parameters and place. ROTATION is `rotationHead :: rotationTail`, so it is never empty
(R145). -/
structure HostLoop where
  bringup : Byte
  rotationHead : Byte
  rotationTail : List Byte
  pos : HostPos
deriving DecidableEq, Repr

/-- The host (R151; spec/10_state.md R40). -/
inductive HostAgent where
  /-- A given command stream, in order. An entry `none` is an idle step in which the host offers
  nothing (log entry 9). -/
  | stream (offers : List (Option CmdWord))
  /-- The reference host program, the Main Control Loop (R142 to R149). -/
  | mainLoop (loop : HostLoop)
deriving DecidableEq, Repr

/-- The state. The first group is the block's (R17), the second the ghost state (R33 to R36), the third the read-only
profile store (R29), the fourth the inputs (R21, R38, R45). -/
structure State where
  /-- `L` (R18). -/
  lines : Lines
  /-- `SEQ`: the micro-ops of the current command that have not run yet (R23). -/
  seq : List MicroOp
  /-- `STATUS.TXN_OPEN` (R26). -/
  txnOpen : Bool
  /-- `STATUS.ERR_ILLEGAL` (R27). -/
  errIllegal : Bool
  /-- The hidden wait timer: the kind of the wait in progress; `none` when it is not running (R31, R39). -/
  waitTimer : Option WaitKind
  /-- The ghost trace, newest event first; `State.trace` reads it in order (R33). -/
  traceRev : List Event
  /-- The ghost fault mark (R34). -/
  fault : Bool
  /-- The ghost violation set (R36). -/
  viol : Violations
  /-- `PROFILES`; its length is `NUM_PROFILES` (R29). No step writes it (R30). -/
  profiles : List Profile
  /-- The command port's inputs: `cmd_valid` is whether a word stands here, `cmd` is the word (R21). -/
  cmdPort : Option CmdWord
  /-- The host, which puts the next word on the port. -/
  host : HostAgent
  /-- The level of the reset input in this step and in the steps to come; not asserted after its end (R45, R171). -/
  resetSchedule : List Bool
deriving DecidableEq, Repr

/-- The faults that stop the machine: there are none. The one exception, IllegalCommand, leaves the block running
(R27, R34; spec/60_exceptions.md R152, R158), so it is a next state. Safe: nothing is stopped that the spec lets go on. -/
inductive Fault where
deriving DecidableEq, Repr

/-- The refusals. -/
inductive Refusal where
  /-- Raised by an arm of `exec` whose instruction has no meaning yet. No arm answers it in this model. Safe. -/
  | notModelled (mnemonic : String)
  /-- Raised by `launch` when the host program's ROTATION is empty: "a model refuses such a launch"
  (spec/44_host_control_loop.md R145). Safe. -/
  | emptyRotation
  /-- Raised by `launch` when BRINGUP_PROFILE or an entry of ROTATION is not below NUM_PROFILES: both are given as
  `Fin NUM_PROFILES` (spec/00_scope.md R7). Safe. -/
  | profileIndexOutOfRange
deriving DecidableEq, Repr

/-- The state right after the reset of power-on (R39; spec/70_reset_and_hazards.md R171, R192; S0 of
spec/95_test_vectors.md). The store and the inputs have no reset value in the spec: log entries 1 and 2. -/
def State.reset : State where
  lines := Lines.idle
  seq := []
  txnOpen := false
  errIllegal := false
  waitTimer := none
  traceRev := [.reset]
  fault := false
  viol := Violations.none
  profiles := Config.profiles
  cmdPort := none
  host := .stream []
  resetSchedule := []

end Sys2Proof.Machine
end

