-- ==== Sys2Proof/Machine/Operands.lean ====
section
/-! DEFINITION. Operand forms (spec/30_encoding.md R67 to R72): levels of bits, the bytes of a word, and a word of the
profile store. Every operand is unsigned and used at its own width. -/

namespace Sys2Proof.Machine

/-- `bitlevel(b)`: 0 is LOW, 1 is HIGH (spec/00_scope.md R10). -/
def bitLevel (b : Bool) : Level := if b then .high else .low

/-- The bit a level reads as: LOW is 0, HIGH is 1 (R10). -/
def levelBit : Level → Bool
  | .low => false
  | .high => true

/-- The bits of a byte in the order the wire carries them, bit 7 first (spec/20_memory.md R48). -/
def bitsMsbFirst (v : Byte) : List Bool :=
  [v.getLsbD 7, v.getLsbD 6, v.getLsbD 5, v.getLsbD 4, v.getLsbD 3, v.getLsbD 2, v.getLsbD 1, v.getLsbD 0]

/-- `w[j+7:j]`, by shift and mask: `(w >> j) AND 0xFF` (spec/41_serial_transmit.md R105). -/
def byteAt (w : Word) (j : Nat) : Byte := ((w >>> j) &&& 0xFF#32).setWidth 8

/-- The bytes of a Register Word in the order the wire carries them (spec/20_memory.md R49). -/
def bytesMsbFirst (w : Word) : List Byte := [byteAt w 24, byteAt w 16, byteAt w 8, byteAt w 0]

/-- Register Word r of a profile (spec/10_state.md R29). -/
def profileWord (p : Profile) (r : Fin 6) : Word :=
  match r with
  | 0 => p.reg0
  | 1 => p.reg1
  | 2 => p.reg2
  | 3 => p.reg3
  | 4 => p.reg4
  | 5 => p.reg5

/-- `NUM_PROFILES`. -/
def State.numProfiles (s : State) : Nat := s.profiles.length

/-- Profile k of the store; `none` when k is not below NUM_PROFILES. -/
def storeProfile (store : List Profile) (k : Byte) : Option Profile := store[k.toNat]?

/-- `ProfRead(k, r)` (spec/20_memory.md R47). -/
def profRead (store : List Profile) (k : Byte) (r : Fin 6) : Option Word := (storeProfile store k).map (profileWord · r)

end Sys2Proof.Machine
end

