-- ==== Sys2Proof/Machine/Flags.lean ====
section
/-! DEFINITION. The status views: BUSY, cmd_ready and the 8-bit STATUS output (spec/10_state.md R21, R24, R25, R28). The
block has no arithmetic flags (R37). -/

namespace Sys2Proof.Machine

/-- `BUSY = (SEQ != [])` (R24). -/
def State.busy (s : State) : Bool := !s.seq.isEmpty

/-- `cmd_ready = NOT BUSY` (R21). -/
def State.cmdReady (s : State) : Bool := !s.busy

/-- `cmd_valid` (R21). -/
def State.cmdValid (s : State) : Bool := s.cmdPort.isSome

/-- A flag as a one-bit vector. -/
def flagBit (b : Bool) : BitVec 1 := BitVec.ofBool b

/-- STATUS, from bit 7 to bit 0: CHIP_SELECT, LATCH_ENABLE, CLOCK, DATA, 0, ERR_ILLEGAL, TXN_OPEN, BUSY (R25, R28). -/
def State.status (s : State) : BitVec 8 :=
  flagBit (levelBit s.lines.chipSelect) ++ flagBit (levelBit s.lines.latchEnable) ++ flagBit (levelBit s.lines.clock)
    ++ flagBit (levelBit s.lines.data) ++ 0#1 ++ flagBit s.errIllegal ++ flagBit s.txnOpen ++ flagBit s.busy

end Sys2Proof.Machine
end

