-- ==== Sys2Proof/Machine/HostProgram.lean ====
section
/-! DEFINITION. The host: what it offers next, how it moves on, what a reset of the block does to it, and the launch of the
reference host program (spec/44_host_control_loop.md). -/

namespace Sys2Proof.Machine

/-- The host states of R144. -/
inductive HState where
  | bringup
  | rotate
deriving DecidableEq, Repr

/-- `hstate` (R144). -/
def HostPos.hstate : HostPos → HState
  | .powerUp => .bringup
  | .bringupApply => .bringup
  | .bringupDwell => .bringup
  | .rotateApply _ => .rotate
  | .rotateDwell _ => .rotate

/-- `hpc` (R144). In ROTATE it is the index of the current rotate step (R142, R143). DESIGN CHOICE, unsafe (log entry 14):
in BRINGUP, before R142's `hpc <- 0`, it reads 0. The spec gives no value there, only the range of R144. -/
def HostPos.hpc : HostPos → Nat
  | .powerUp => 0
  | .bringupApply => 0
  | .bringupDwell => 0
  | .rotateApply n => n
  | .rotateDwell n => n

/-- `ROTATION`. -/
def HostLoop.rotation (h : HostLoop) : List Byte := h.rotationHead :: h.rotationTail

/-- `ROTATION[n]`. -/
def HostLoop.rotationAt (h : HostLoop) (n : Nat) : Byte := h.rotation.getD n h.rotationHead

/-- The power-up delay, "≈1 s", as the command R142 issues. -/
def powerUpDelay : Instr := .delayMs 1000#32

/-- The dwell, "≈10 s", as the command R142 and R143 issue. -/
def dwellDelay : Instr := .delayMs 10000#32

/-- The command the host program offers at its place (R142, R143). -/
def HostLoop.command (h : HostLoop) : Instr :=
  match h.pos with
  | .powerUp => powerUpDelay
  | .bringupApply => .applyProfile h.bringup
  | .bringupDwell => dwellDelay
  | .rotateApply n => .applyProfile (h.rotationAt n)
  | .rotateDwell _ => dwellDelay

/-- The place after a command has been issued: `hpc` starts at 0 and wraps modulo `length(ROTATION)` (R142, R143, R145). -/
def HostLoop.advance (h : HostLoop) : HostLoop :=
  { h with pos :=
      match h.pos with
      | .powerUp => .bringupApply
      | .bringupApply => .bringupDwell
      | .bringupDwell => .rotateApply 0
      | .rotateApply n => .rotateDwell n
      | .rotateDwell n => .rotateApply ((n + 1) % h.rotation.length) }

/-- The host program after n of its commands have been issued. -/
def HostLoop.advanceBy : Nat → HostLoop → HostLoop
  | 0, h => h
  | n + 1, h => HostLoop.advanceBy n h.advance

/-- `bringup()` as a unit: the commands of R142 in order (R147). -/
def bringupUnit (bringup : Byte) : List Instr := [powerUpDelay, .applyProfile bringup, dwellDelay]

/-- `rotateStep()` as a unit: the commands of one pass of R143's body (R147). -/
def rotateUnit (profile : Byte) : List Instr := [.applyProfile profile, dwellDelay]

/-- The next n commands the host program issues, in order (R147: a bounded number of steps, under fuel). -/
def HostLoop.commands : Nat → HostLoop → List Instr
  | 0, _ => []
  | n + 1, h => h.command :: HostLoop.commands n h.advance

/-- The word the host puts on the port next; `none` when it offers nothing in that step (R151). The host program offers the
command at its place. -/
def HostAgent.offer : HostAgent → Option CmdWord
  | .stream [] => none
  | .stream (o :: _) => o
  | .mainLoop h => some (encode h.command)

/-- The host once that word is on the port. A given stream keeps what is still to be offered; the host program stands where
it is, because a command is issued only when the block accepts it (R149). -/
def HostAgent.present : HostAgent → HostAgent
  | .stream [] => .stream []
  | .stream (_ :: rest) => .stream rest
  | .mainLoop h => .mainLoop h

/-- The host once the block has accepted the word on the port: the host program has issued the command at its place, and
moves on, so `hstate` and `hpc` change only after a dwell has been issued (R142, R143, R149). -/
def HostAgent.accepted : HostAgent → HostAgent
  | .stream offers => .stream offers
  | .mainLoop h => .mainLoop h.advance

/-- A reset of the block is also a reset of the host program, which re-enters BRINGUP (R146). A given command stream is
not changed by a reset: it is what the host offers, reset or not. -/
def HostAgent.onReset : HostAgent → HostAgent
  | .stream offers => .stream offers
  | .mainLoop h => .mainLoop { h with pos := .powerUp }

/-- The port after a reset: the host program withdraws the word it was offering, because it starts again; a given command
stream holds its word until it is accepted (spec/10_state.md R21). -/
def HostAgent.portOnReset (port : Option CmdWord) : HostAgent → Option CmdWord
  | .stream _ => port
  | .mainLoop _ => none

/-- The host program may be launched with an index only below NUM_PROFILES (spec/00_scope.md R7). -/
def indexInStore (store : List Profile) (k : Byte) : Bool := decide (k.toNat < store.length)

/-- Launch the reference host program on a block: it stands in BRINGUP, with nothing on the port yet (R142). An empty
ROTATION is refused (R145), and so are indices outside the store. -/
def launch (bringup : Byte) (rotation : List Byte) (s : State) : Host.Outcome State Fault Refusal :=
  match rotation with
  | [] => .refused .emptyRotation
  | head :: tail =>
    if indexInStore s.profiles bringup && (head :: tail).all (indexInStore s.profiles) then
      .next { s with
        cmdPort := none
        host := .mainLoop { bringup := bringup, rotationHead := head, rotationTail := tail, pos := .powerUp } }
    else .refused .profileIndexOutOfRange

end Sys2Proof.Machine
end

