-- ==== Sys2Proof/Machine/Ops.lean ====
section
/-! DEFINITION. The named operations of the block: reading and driving lines, the trace, the marks, the wait timer, the
accept of a legal command, IllegalCommand (the one exception), reset, the micro-step, and the inputs' movement
(spec/10_state.md; spec/60_exceptions.md R152; spec/70_reset_and_hazards.md R171). There is no return from an exception:
spec/60_exceptions.md R159. There is no addressable memory: spec/20_memory.md R46. -/

namespace Sys2Proof.Machine

/-! ### Lines -/

/-- `L[s]` (spec/00_scope.md R11). -/
def Lines.get (L : Lines) : Signal → Level
  | .data => L.data
  | .clock => L.clock
  | .latchEnable => L.latchEnable
  | .chipSelect => L.chipSelect

/-- `L[s] <- l`; no other line changes (spec/10_state.md R19, R20). -/
def Lines.set (L : Lines) (s : Signal) (l : Level) : Lines :=
  match s with
  | .data => { L with data := l }
  | .clock => { L with clock := l }
  | .latchEnable => { L with latchEnable := l }
  | .chipSelect => { L with chipSelect := l }

/-- A Drive changes DATA while CLOCK is HIGH (spec/10_state.md R36, R43; a re-drive of the same level is no change, D24). -/
def changesDataWhileClockHigh (L : Lines) (s : Signal) (l : Level) : Bool :=
  decide (s = .data) && decide (L.clock = .high) && decide (l ≠ L.data)

/-! ### Trace and marks -/

/-- The trace in order, oldest event first (spec/10_state.md R33). -/
def State.trace (s : State) : List Event := s.traceRev.reverse

/-- `emit e`: append an event to the trace. -/
def State.emit (e : Event) (s : State) : State := { s with traceRev := e :: s.traceRev }

/-- Is a mark in the set? -/
def Violations.has (V : Violations) : Violation → Bool
  | .nest => V.nest
  | .closeIdle => V.closeIdle
  | .outsideTxn => V.outsideTxn
  | .dataWhileClockHigh => V.dataWhileClockHigh

/-- Add a mark to the set; marks are only ever added (spec/10_state.md R36). -/
def Violations.add (V : Violations) (v : Violation) : Violations :=
  match v with
  | .nest => { V with nest := true }
  | .closeIdle => { V with closeIdle := true }
  | .outsideTxn => { V with outsideTxn := true }
  | .dataWhileClockHigh => { V with dataWhileClockHigh := true }

/-- `violate(v)` when the condition holds (spec/00_scope.md R11). -/
def State.violateIf (c : Bool) (v : Violation) (s : State) : State :=
  if c then { s with viol := s.viol.add v } else s

/-! ### The wait timer (spec/10_state.md R31) -/

/-- The timer runs for a wait of kind k. -/
def State.startWait (k : WaitKind) (s : State) : State := { s with waitTimer := some k }

/-- The wait's time has elapsed: the timer is not running. How long it took is in no state (spec/70_reset_and_hazards.md
R186); `Timed` reads it from the trace. -/
def State.endWait (s : State) : State := { s with waitTimer := none }

/-- Is a wait in progress? Only inside a micro-step, never between two steps. -/
def State.waiting (s : State) : Bool := s.waitTimer.isSome

/-! ### Micro-ops (spec/10_state.md R43) -/

/-- `Drive(s, l)`. -/
def State.driveLine (sig : Signal) (l : Level) (s : State) : State :=
  let marked := s.violateIf (changesDataWhileClockHigh s.lines sig l) .dataWhileClockHigh
  { marked with lines := marked.lines.set sig l }.emit (.op (.drive sig l))

/-- `Wait(k)`: emit the event, and let a time in admit(k) elapse. -/
def State.runWait (k : WaitKind) (s : State) : State := ((s.emit (.op (.wait k))).startWait k).endWait

/-- Perform one micro-op. -/
def State.perform (m : MicroOp) (s : State) : State :=
  match m with
  | .drive sig l => s.driveLine sig l
  | .wait k => s.runWait k

/-- `MicroStep`: take the head of SEQ and perform it. -/
def State.microStep (s : State) : State :=
  match s.seq with
  | [] => s
  | m :: rest => { s with seq := rest }.perform m

/-! ### Accept (spec/10_state.md R42) -/

/-- `V_NEST`: OPEN_TXN or APPLY_PROFILE while a transaction is open (R36). -/
def checkNest (s : State) : State := s.violateIf s.txnOpen .nest

/-- `V_CLOSE_IDLE`: CLOSE_TXN while no transaction is open (R36). -/
def checkClose (s : State) : State := s.violateIf (!s.txnOpen) .closeIdle

/-- `V_OUTSIDE_TXN`: SEND_BYTE or SEND_REGISTER while no transaction is open (R36). -/
def checkInside (s : State) : State := s.violateIf (!s.txnOpen) .outsideTxn

/-- The accept of a legal command: `emit Accept(cmd)`, the command's own protocol check on TXN_OPEN as it was before, then
TXN_OPEN takes its value after the command, and SEQ the command's micro-ops (R26, R42). -/
def State.acceptLegal (i : Instr) (check : State → State) (post : Bool) (ops : List MicroOp) (s : State) : State :=
  { check (s.emit (.accept (encode i))) with txnOpen := post, seq := ops }

/-- IllegalCommand: the one exception. It sets ERR_ILLEGAL and the ghost fault mark, keeps the word in the trace, and
changes nothing else: SEQ stays empty, no line is driven, TXN_OPEN is unchanged, no mark is added. Nothing is saved and no
handler is entered (spec/60_exceptions.md R152, R158). -/
def State.raiseIllegal (cmd : CmdWord) (s : State) : State :=
  { s.emit (.accept cmd) with errIllegal := true, fault := true }

/-! ### Reset (spec/70_reset_and_hazards.md R171, R172) -/

/-- The reset step: idle levels, SEQ empty, TXN_OPEN and ERR_ILLEGAL 0, a wait in progress cut short, `Reset` in the
trace; `fault` and `viol` are kept. The host program restarts (spec/44_host_control_loop.md R146). -/
def State.applyReset (s : State) : State :=
  { s.emit .reset with
    lines := Lines.idle
    seq := []
    txnOpen := false
    errIllegal := false
    waitTimer := none
    cmdPort := s.host.portOnReset s.cmdPort
    host := s.host.onReset }

/-! ### Inputs -/

/-- Is the reset input asserted in this step? -/
def State.resetAsserted (s : State) : Bool := s.resetSchedule.headD false

/-- Is the reset input not asserted in this step and in the following ones, n in all? -/
def State.noResetFor (n : Nat) (s : State) : Bool := (s.resetSchedule.take n).all (fun b => !b)

/-- The reset input moves on to its level in the next step. -/
def State.tick (s : State) : State := { s with resetSchedule := s.resetSchedule.tail }

/-- The same for n steps. -/
def State.tickBy (n : Nat) (s : State) : State := { s with resetSchedule := s.resetSchedule.drop n }

/-- The host puts its next offer on the port (R21, R151): in an idle step in which it offered nothing, and after an accept
(log entry 9). -/
def State.presentOffer (s : State) : State := { s with cmdPort := s.host.offer, host := s.host.present }

/-- The block accepts the word on the port: the host has issued it, and puts its next offer on the port
(spec/44_host_control_loop.md R149; log entry 9). -/
def State.takeOffer (s : State) : State := { s with host := s.host.accepted }.presentOffer

/-- The word offered on the port. -/
def State.offered (s : State) : Option CmdWord := s.cmdPort

/-- The command a word stands for on this block: it depends on the word and on NUM_PROFILES alone (spec/30_encoding.md R74). -/
def State.decodeWord (s : State) (w : CmdWord) : Option Instr := decode s.numProfiles w

/-- The reset input not asserted in this step; its later levels as they were. -/
def releaseReset (schedule : List Bool) : List Bool :=
  match schedule with
  | [] => []
  | _ :: later => false :: later

/-- The state in which the next step accepts the word w. A command or a wait in progress would be served first and an
asserted reset has priority, so those three are cleared; nothing else changes. -/
def State.withOffer (w : CmdWord) (s : State) : State :=
  { s with seq := [], waitTimer := none, cmdPort := some w, resetSchedule := releaseReset s.resetSchedule }

end Sys2Proof.Machine
end

