-- ==== Sys2Proof/Machine/LineDriver.lean ====
section
/-! DEFINITION. SET_SIGNAL, DELAY_US and DELAY_MS (spec/40_line_driver.md). -/

namespace Sys2Proof.Machine

/-- `[Drive(s, l)]`, with no wait (R84, R85). -/
def expandSetSignal (line : Signal) (level : Level) : List MicroOp := [.drive line level]

/-- `[Wait(US(n))]` (R88). -/
def expandDelayUs (n : Word) : List MicroOp := [.wait (.us n)]

/-- `[Wait(MS(n))]`, one wait of its own kind (R91, R92). -/
def expandDelayMs (n : Word) : List MicroOp := [.wait (.ms n)]

/-- SET_SIGNAL (R84): legal inside and outside a transaction, TXN_OPEN unchanged. -/
def execSetSignal (line : Signal) (level : Level) (s : State) : Host.Outcome State Fault Refusal :=
  .next (s.acceptLegal (.setSignal line level) id s.txnOpen (expandSetSignal line level))

/-- DELAY_US (R88). -/
def execDelayUs (n : Word) (s : State) : Host.Outcome State Fault Refusal :=
  .next (s.acceptLegal (.delayUs n) id s.txnOpen (expandDelayUs n))

/-- DELAY_MS (R91). -/
def execDelayMs (n : Word) (s : State) : Host.Outcome State Fault Refusal :=
  .next (s.acceptLegal (.delayMs n) id s.txnOpen (expandDelayMs n))

end Sys2Proof.Machine
end

