-- ==== Sys2Proof/Machine/SerialTransmit.lean ====
section
/-! DEFINITION. SEND_BYTE and SEND_REGISTER (spec/41_serial_transmit.md). -/

namespace Sys2Proof.Machine

/-- A bit-cycle: six micro-ops (R97). -/
def bitCycle (b : Bool) : List MicroOp :=
  [.drive .data (bitLevel b), .wait .setup, .drive .clock .high, .wait .pulse, .drive .clock .low, .wait .hold]

/-- SEND_BYTE's sequence: eight bit-cycles, bit 7 first, 48 micro-ops (R96). -/
def expandSendByte (v : Byte) : List MicroOp := (bitsMsbFirst v).flatMap bitCycle

/-- The latch tail: five micro-ops (R106). -/
def latchTail : List MicroOp :=
  [.wait .short, .drive .latchEnable .high, .wait .latch, .drive .latchEnable .low, .wait .short]

/-- SEND_REGISTER's sequence: the four bytes at offsets 24, 16, 8, 0, then the latch tail, 197 micro-ops (R104, R105). -/
def expandSendRegister (w : Word) : List MicroOp := (bytesMsbFirst w).flatMap expandSendByte ++ latchTail

/-- SEND_BYTE (R96): marks `V_OUTSIDE_TXN` outside a transaction, TXN_OPEN unchanged. -/
def execSendByte (v : Byte) (s : State) : Host.Outcome State Fault Refusal :=
  .next (s.acceptLegal (.sendByte v) checkInside s.txnOpen (expandSendByte v))

/-- SEND_REGISTER (R104): marks `V_OUTSIDE_TXN` outside a transaction, TXN_OPEN unchanged. -/
def execSendRegister (w : Word) (s : State) : Host.Outcome State Fault Refusal :=
  .next (s.acceptLegal (.sendRegister w) checkInside s.txnOpen (expandSendRegister w))

end Sys2Proof.Machine
end

