-- ==== Sys2Proof/Machine/Transaction.lean ====
section
/-! DEFINITION. OPEN_TXN and CLOSE_TXN, the Transaction Bracket (spec/42_transaction.md). -/

namespace Sys2Proof.Machine

/-- OPEN_TXN's sequence: 12 micro-ops (R114). -/
def expandOpenTxn : List MicroOp :=
  [ .drive .chipSelect .high, .wait .step,
    .drive .latchEnable .high, .wait .settle,
    .drive .data .low, .wait .step,
    .drive .clock .low, .wait .step,
    .drive .chipSelect .low, .wait .settle,
    .drive .latchEnable .low, .wait .step ]

/-- CLOSE_TXN's sequence: 6 micro-ops (R120). LATCH_ENABLE is not driven (R122). -/
def expandCloseTxn : List MicroOp :=
  [ .drive .clock .low, .wait .step,
    .drive .data .low, .wait .settle,
    .drive .chipSelect .high, .wait .settle ]

/-- OPEN_TXN (R114): marks `V_NEST` inside a transaction, TXN_OPEN becomes 1. -/
def execOpenTxn (s : State) : Host.Outcome State Fault Refusal :=
  .next (s.acceptLegal .openTxn checkNest true expandOpenTxn)

/-- CLOSE_TXN (R120): marks `V_CLOSE_IDLE` outside a transaction, TXN_OPEN becomes 0. -/
def execCloseTxn (s : State) : Host.Outcome State Fault Refusal :=
  .next (s.acceptLegal .closeTxn checkClose false expandCloseTxn)

end Sys2Proof.Machine
end

