-- ==== Sys2Proof/Machine/ProfileSequencer.lean ====
section
/-! DEFINITION. APPLY_PROFILE, the Frequency Profile Sequencer (spec/43_profile_sequencer.md). -/

namespace Sys2Proof.Machine

/-- The registers of step 4, in their fixed descending order (R128, R129). -/
def laterRegisters : List (Fin 6) := [4, 3, 2, 1, 0]

/-- APPLY_PROFILE's sequence: the open bracket, register 5, its settle, registers 4 to 0 with nothing between them, the
close bracket, the post settle: 1202 micro-ops (R128, R130). -/
def expandApplyProfile (p : Profile) : List MicroOp :=
  expandOpenTxn
    ++ (expandSendRegister (profileWord p 5)
    ++ ([.wait .reg5Settle]
    ++ (laterRegisters.flatMap (fun r => expandSendRegister (profileWord p r))
    ++ (expandCloseTxn ++ [.wait .postSettle]))))

/-- APPLY_PROFILE (R128): marks `V_NEST` inside a transaction, TXN_OPEN becomes 0. An index that is not below NUM_PROFILES
makes the word illegal: the block then takes IllegalCommand, runs no micro-op and reads no profile. -/
def execApplyProfile (k : Byte) (s : State) : Host.Outcome State Fault Refusal :=
  match storeProfile s.profiles k with
  | some p => .next (s.acceptLegal (.applyProfile k) checkNest false (expandApplyProfile p))
  | none => .next (s.raiseIllegal (encode (.applyProfile k)))

end Sys2Proof.Machine
end

