-- ==== Sys2Proof/Machine/Dispatch.lean ====
section
/-! DEFINITION. The meaning of each command: the Accept step of spec/10_state.md R42 for it. -/

namespace Sys2Proof.Machine

def exec (i : Instr) (s : State) : Host.Outcome State Fault Refusal :=
  match i with
  | .setSignal line level => Sys2Proof.Machine.execSetSignal line level s
  | .sendByte v => Sys2Proof.Machine.execSendByte v s
  | .sendRegister w => Sys2Proof.Machine.execSendRegister w s
  | .openTxn => Sys2Proof.Machine.execOpenTxn s
  | .closeTxn => Sys2Proof.Machine.execCloseTxn s
  | .applyProfile k => Sys2Proof.Machine.execApplyProfile k s
  | .delayUs n => Sys2Proof.Machine.execDelayUs n s
  | .delayMs n => Sys2Proof.Machine.execDelayMs n s

end Sys2Proof.Machine
end

