-- ==== Sys2Proof/Machine/Step.lean ====
section
/-! DEFINITION. One step of the block with its host (spec/10_state.md R38). -/

namespace Sys2Proof.Machine

/-- One step. Reset has priority (spec/60_exceptions.md R160); a wait in progress finishes; a busy block runs its next
micro-op; an idle one accepts the word offered, or takes no step of its own while the host offers nothing. Every step
consumes the reset input's level; an accept and an idle step let the host put its next offer on the port. -/
def step (s : State) : Host.Outcome State Fault Refusal :=
  if s.resetAsserted then .next s.tick.applyReset
  else if s.waiting then .next s.tick.endWait
  else if s.busy then .next s.tick.microStep
  else
    match s.offered with
    | none => .next s.tick.presentOffer
    | some w =>
      match s.decodeWord w with
      | some i => exec i s.tick.takeOffer
      | none => .next (s.tick.takeOffer.raiseIllegal w)

/-- The state s with the command word of an opcode-table row offered on the port, so that the very next step accepts it
(log entry 3). -/
def State.withFetchWord (s : State) (nbits w : Nat) : State := s.withOffer (tableWord nbits w)

end Sys2Proof.Machine
end

