-- ==== Sys2Proof/Machine/Expand.lean ====
section
/-! DEFINITION. The terms statements about whole commands are written in: the micro-op sequence of a command as a function
of the command and the store alone (spec/00_scope.md R12), its effect on TXN_OPEN and its protocol check (spec/10_state.md
R26, R36), the expansion of pseudo-instructions (spec/30_encoding.md R80), and what a list of micro-ops does to the lines
and to the data-stability mark. -/

namespace Sys2Proof.Machine

/-- `expand(cmd)` (R12; spec/10_state.md R42). An ill-formed APPLY_PROFILE has no micro-ops. -/
def expand (store : List Profile) : Instr → List MicroOp
  | .setSignal line level => expandSetSignal line level
  | .sendByte v => expandSendByte v
  | .sendRegister w => expandSendRegister w
  | .openTxn => expandOpenTxn
  | .closeTxn => expandCloseTxn
  | .applyProfile k => (storeProfile store k).elim [] expandApplyProfile
  | .delayUs n => expandDelayUs n
  | .delayMs n => expandDelayMs n

/-- `post_txn(cmd, TXN_OPEN)` (spec/10_state.md R26). -/
def postTxn (txnOpen : Bool) : Instr → Bool
  | .setSignal _ _ => txnOpen
  | .sendByte _ => txnOpen
  | .sendRegister _ => txnOpen
  | .openTxn => true
  | .closeTxn => false
  | .applyProfile _ => false
  | .delayUs _ => txnOpen
  | .delayMs _ => txnOpen

/-- The mark a command's protocol check adds for a value of TXN_OPEN, if any (spec/10_state.md R36). -/
def protocolMark (txnOpen : Bool) : Instr → Option Violation
  | .setSignal _ _ => none
  | .sendByte _ => if txnOpen then none else some .outsideTxn
  | .sendRegister _ => if txnOpen then none else some .outsideTxn
  | .openTxn => if txnOpen then some .nest else none
  | .closeTxn => if txnOpen then none else some .closeIdle
  | .applyProfile _ => if txnOpen then some .nest else none
  | .delayUs _ => none
  | .delayMs _ => none

/-- The set with a mark added, if there is one. -/
def addMark (V : Violations) (v : Option Violation) : Violations := v.elim V V.add

/-- What one micro-op does to the lines: a wait does nothing (spec/10_state.md R19, R20). -/
def lineEffect (L : Lines) : MicroOp → Lines
  | .drive s l => L.set s l
  | .wait _ => L

/-- The lines after a list of micro-ops. -/
def linesAfter (L : Lines) (ops : List MicroOp) : Lines := ops.foldl lineEffect L

/-- Does a list of micro-ops, begun at the levels L, change DATA while CLOCK is HIGH (spec/10_state.md R43)? -/
def breaksDataStability (L : Lines) : List MicroOp → Bool
  | [] => false
  | .drive s l :: rest => changesDataWhileClockHigh L s l || breaksDataStability (L.set s l) rest
  | .wait _ :: rest => breaksDataStability L rest

/-- Is a micro-op a Drive? -/
def MicroOp.isDrive : MicroOp → Bool
  | .drive _ _ => true
  | .wait _ => false

/-- The Drives of a list of micro-ops, in order. -/
def drivesOf (ops : List MicroOp) : List MicroOp := ops.filter MicroOp.isDrive

/-- The waits of a list of micro-ops, in order. -/
def waitsOf : List MicroOp → List WaitKind
  | [] => []
  | .drive _ _ :: rest => waitsOf rest
  | .wait k :: rest => k :: waitsOf rest

/-- How often CLOCK is driven HIGH while LOW, from the levels L (spec/41_serial_transmit.md R99). -/
def risingEdges (L : Lines) : List MicroOp → Nat
  | [] => 0
  | .drive .clock .high :: rest => (if L.clock = .low then 1 else 0) + risingEdges (L.set .clock .high) rest
  | m :: rest => risingEdges (lineEffect L m) rest

/-- The commands a pseudo-instruction stands for, in order (spec/30_encoding.md R80). -/
def expandPseudo : Pseudo → List Instr
  | .lineIdle =>
    [.setSignal .clock .low, .setSignal .data .low, .setSignal .latchEnable .low, .setSignal .chipSelect .high]
  | .pulseLe n => [.setSignal .latchEnable .high, .delayUs n, .setSignal .latchEnable .low]
  | .applyWords w5 w4 w3 w2 w1 w0 =>
    [ .openTxn, .sendRegister w5, .delayMs 20#32, .sendRegister w4, .sendRegister w3, .sendRegister w2,
      .sendRegister w1, .sendRegister w0, .closeTxn, .delayMs 10#32 ]

end Sys2Proof.Machine
end

