-- ==== Sys2Proof/Machine/Observer.lean ====
section
/-! DEFINITION. The views of a run that are functions of its trace alone (spec/10_state.md R41): the pin waveform, and the
target observer of spec/20_memory.md R50, which says what a target that samples DATA on the rising edge of CLOCK receives.
It does not model the target chip. -/

namespace Sys2Proof.Machine

/-! ### The pin waveform -/

/-- The levels after one event: a Drive sets its line, a Reset the idle levels (spec/20_memory.md R54). -/
def eventEffect (L : Lines) : Event → Lines
  | .op m => lineEffect L m
  | .accept _ => L
  | .reset => Lines.idle

/-- The levels after a trace, folded over the reset levels (spec/10_state.md R41). -/
def traceLines (trace : List Event) : Lines := trace.foldl eventEffect Lines.idle

/-- The levels after each event of a trace, in order. -/
def waveformFrom (L : Lines) : List Event → List Lines
  | [] => []
  | e :: rest => eventEffect L e :: waveformFrom (eventEffect L e) rest

/-- The pin waveform of a trace (spec/10_state.md R41). -/
def waveform (trace : List Event) : List Lines := waveformFrom Lines.idle trace

/-! ### The target observer (spec/20_memory.md R50) -/

/-- A sampled bit, with the level of CHIP_SELECT at its rising edge. -/
structure Sample where
  bit : Bool
  chipSelect : Level
deriving DecidableEq, Repr

/-- A latch pulse: the samples of its window, in order, and CHIP_SELECT at its rising event. -/
structure LatchPulse where
  samples : List Sample
  chipSelect : Level
deriving DecidableEq, Repr

/-- A pulse is clean: 32 bits, CHIP_SELECT LOW at every one of their edges and at the pulse's rising event. -/
def LatchPulse.clean (p : LatchPulse) : Bool :=
  p.samples.length == 32 && p.samples.all (fun b => b.chipSelect == .low) && p.chipSelect == .low

/-- `{b0, b1, ..., b31}`: the first sampled bit is the most significant. -/
def bitsToWord (bits : List Bool) : Word := bits.foldl (fun acc b => (acc <<< 1) ||| (BitVec.ofBool b).setWidth 32) 0#32

/-- The word a clean pulse commits. -/
def LatchPulse.word (p : LatchPulse) : Word := bitsToWord (p.samples.map Sample.bit)

/-- What the observer has seen: the levels, all sampled bits, the samples of the current window, the pulse that has risen
and not fallen yet, and the pulses that have fallen. -/
structure Observer where
  lines : Lines
  sampled : List Bool
  window : List Sample
  rising : Option LatchPulse
  pulses : List LatchPulse
deriving DecidableEq, Repr

/-- The observer at the start of a trace. -/
def Observer.init : Observer :=
  { lines := Lines.idle, sampled := [], window := [], rising := none, pulses := [] }

/-- A rising edge of CLOCK samples DATA. -/
def Observer.clockHigh (o : Observer) : Observer :=
  if o.lines.clock = .low then
    { o with
      sampled := o.sampled ++ [levelBit o.lines.data]
      window := o.window ++ [{ bit := levelBit o.lines.data, chipSelect := o.lines.chipSelect }] }
  else o

/-- A rising event of LATCH_ENABLE begins a pulse and closes its window of bits. -/
def Observer.latchHigh (o : Observer) : Observer :=
  if o.lines.latchEnable = .low then
    { o with rising := some { samples := o.window, chipSelect := o.lines.chipSelect }, window := [] }
  else o

/-- The next `Drive(LATCH_ENABLE, LOW)` ends the pulse that has risen. -/
def Observer.latchLow (o : Observer) : Observer :=
  match o.rising with
  | some p => { o with pulses := o.pulses ++ [p], rising := none }
  | none => o

/-- What the observer makes of a Drive before the line changes. -/
def Observer.sees (o : Observer) (s : Signal) (l : Level) : Observer :=
  match s, l with
  | .clock, .high => o.clockHigh
  | .latchEnable, .high => o.latchHigh
  | .latchEnable, .low => o.latchLow
  | _, _ => o

/-- One event. A Reset starts a new window, sets the idle levels, and abandons a pulse that has not fallen: nothing is
committed from what a reset cut off (spec/70_reset_and_hazards.md R172; log entry 5). -/
def Observer.next (o : Observer) : Event → Observer
  | .op (.drive s l) => { o.sees s l with lines := o.lines.set s l }
  | .op (.wait _) => o
  | .accept _ => o
  | .reset => { o with lines := Lines.idle, window := [], rising := none }

/-- The observer after a trace. -/
def observe (trace : List Event) : Observer := trace.foldl Observer.next Observer.init

/-- `sampled(trace)`: the bits of all rising edges, in trace order. -/
def sampled (trace : List Event) : List Bool := (observe trace).sampled

/-- The latch pulses of a trace, in order. -/
def latchPulses (trace : List Event) : List LatchPulse := (observe trace).pulses

/-- The words the clean pulses among a list of pulses commit, in order. A pulse that is not clean gives no word. -/
def cleanWords (pulses : List LatchPulse) : List Word := (pulses.filter LatchPulse.clean).map LatchPulse.word

/-- `committed(trace)`: the committed words of the clean pulses, in order. -/
def committed (trace : List Event) : List Word := cleanWords (latchPulses trace)

end Sys2Proof.Machine
end

