-- ==== Sys2Proof/Machine/Timing.lean ====
section
/-! DEFINITION. The timed reading of a trace (spec/70_reset_and_hazards.md R186) over the spec's parameter `admit`, here named
`admissible`, and the nominal durations, which are only the default of that parameter in a simulator (spec/00_scope.md R8).
No step reads either. -/

namespace Sys2Proof.Machine

/-- A duration or a time, in microseconds. -/
abbrev Duration := NNRat

/-- The nominal value of a wait, in microseconds (R8). It is not a bound the model may assume. -/
def nominalMicros : WaitKind → Nat
  | .setup => 2
  | .pulse => 4
  | .hold => 2
  | .short => 2
  | .latch => 10
  | .step => 2
  | .settle => 10
  | .reg5Settle => 20000
  | .postSettle => 10000
  | .us n => n.toNat
  | .ms n => 1000 * n.toNat

/-- The sum of the nominal waits of a list of micro-ops (R188). -/
def nominalTotal (ops : List MicroOp) : Nat := ((waitsOf ops).map nominalMicros).sum

/-- The simulator's default of `admissible`: each wait takes its nominal value (R8; spec/92_eei_decisions.md D10). -/
def nominalAdmit (k : WaitKind) : Set Duration := fun d => d = (nominalMicros k : Duration)

/-- What R186 says of two neighbouring events at times t and t'. Inside a command time passes only in waits
(spec/10_state.md R44); a wait's next event stands at its end, or later when it is an Accept; a reset may cut it short
(R172). Log entry 6. -/
def neighboursTimed (admissible : WaitKind → Set Duration) (e e' : Event) (t t' : Duration) : Prop :=
  match e, e' with
  | _, .reset => t ≤ t'
  | .op (.wait k), .op _ => ∃ d ∈ admissible k, t' = t + d
  | .op (.wait k), .accept _ => ∃ d ∈ admissible k, t + d ≤ t'
  | .op (.drive _ _), .op _ => t' = t
  | .accept _, .op _ => t' = t
  | .reset, .op _ => t ≤ t'
  | _, .accept _ => t ≤ t'

/-- A timed reading of a trace: every event has a time, and neighbours stand as R186 says. -/
def Timed (admissible : WaitKind → Set Duration) : List (Event × Duration) → Prop
  | [] => True
  | [_] => True
  | a :: b :: rest => neighboursTimed admissible a.1 b.1 a.2 b.2 ∧ Timed admissible (b :: rest)

/-- The time a wait of at least `atLeast k` takes from an event to the next one; other events take none. -/
def Event.leastTime (atLeast : WaitKind → Duration) : Event → Duration
  | .op (.wait k) => atLeast k
  | .op (.drive _ _) => 0
  | .accept _ => 0
  | .reset => 0

/-- The nominal reading of a trace from time t on: each wait takes its nominal value, the host no time at all. -/
def nominalReading (t : Duration) : List Event → List (Event × Duration)
  | [] => []
  | e :: rest => (e, t) :: nominalReading (t + e.leastTime (fun k => (nominalMicros k : Duration))) rest

end Sys2Proof.Machine
end

