-- ==== Sys2Proof/Safety.lean ====
section
/-! DEFINITION. The terms of statements about runs: a clean run, the idle lines, a finished run, a command that is about to
be accepted, and the invariants that every step keeps. -/

namespace Sys2Proof.Machine

/-- The premises of every claim about a run: no fault, and no violation mark (spec/60_exceptions.md R169). -/
def State.clean (s : State) : Bool := !s.fault && decide (s.viol = Violations.none)

/-- Has the host no word left to offer? A stream may still hold steps without an offer; the host program never ends
(spec/44_host_control_loop.md R146). -/
def HostAgent.exhausted : HostAgent → Bool
  | .stream offers => offers.all Option.isNone
  | .mainLoop _ => false

/-- Every command of the host's finite stream has been accepted: no word stands on the port and none is still to come. -/
def State.streamDone (s : State) : Bool := s.cmdPort.isNone && s.host.exhausted

/-- The end of a run of a finite command stream: every command accepted, BUSY = 0, no fault recorded
(spec/70_reset_and_hazards.md R191). -/
def State.finished (s : State) : Bool := s.streamDone && !s.busy && !s.fault

/-- The block accepts the word w in the very next step: it is offered, the block is not busy, no wait is in progress and no
reset is asserted (spec/10_state.md R21, R38). -/
def State.Accepts (s : State) (w : CmdWord) : Prop :=
  s.offered = some w ∧ s.busy = false ∧ s.waiting = false ∧ s.resetAsserted = false

/-- As `Accepts`, for a legal command, with no reset until it has run to its end. -/
def State.Runs (s : State) (i : Instr) : Prop :=
  s.Accepts (encode i) ∧ i.wellFormed s.numProfiles = true ∧
    s.noResetFor (1 + (expand s.profiles i).length) = true

/-- The number of steps a legal command takes: its accept and its micro-ops. -/
def State.stepsOf (s : State) (i : Instr) : Nat := 1 + (expand s.profiles i).length

/-- The machine's state after n steps, or the first fault or refusal: `Host.Core.run` for this machine
(`runFor_eq_core_run`). -/
def runFor : Nat → State → Host.Outcome State Fault Refusal
  | 0, s => .next s
  | n + 1, s =>
    match step s with
    | .next t => runFor n t
    | .fault r => .fault r
    | .refused r => .refused r

/-- TXN_OPEN as the trace tells it: the post value of the last legal command since the last reset (spec/10_state.md R26). -/
def txnAfterEvent (numProfiles : Nat) (txn : Bool) : Event → Bool
  | .op _ => txn
  | .accept w => (decode numProfiles w).elim txn (postTxn txn)
  | .reset => false

/-- ERR_ILLEGAL as the trace tells it (spec/10_state.md R27). -/
def errAfterEvent (numProfiles : Nat) (err : Bool) : Event → Bool
  | .op _ => err
  | .accept w => err || (decode numProfiles w).isNone
  | .reset => false

/-- Is an event the accept of an illegal word? -/
def Event.illegal (numProfiles : Nat) : Event → Bool
  | .op _ => false
  | .accept w => (decode numProfiles w).isNone
  | .reset => false

/-- The state agrees with its own trace: the lines are the waveform's last levels (spec/10_state.md R41), TXN_OPEN and
ERR_ILLEGAL are what the accepts since the last reset made them (R26, R27), and the fault mark says whether an illegal word
was ever accepted (R34). -/
structure State.TraceAgrees (s : State) : Prop where
  lines : s.lines = traceLines s.trace
  txnOpen : s.txnOpen = s.trace.foldl (txnAfterEvent s.numProfiles) false
  errIllegal : s.errIllegal = s.trace.foldl (errAfterEvent s.numProfiles) false
  fault : s.fault = s.trace.any (Event.illegal s.numProfiles)

/-- The state is one the block can be in between two steps: no wait is in progress, SEQ is the rest of a legal command's
sequence (spec/10_state.md R23), ERR_ILLEGAL is set only when the fault mark is (R27, R34), the store holds 1 to 256
profiles (spec/00_scope.md R7), the host program's index is below length(ROTATION) (spec/44_host_control_loop.md R144; in
BRINGUP the index reads 0 by the model's choice, log entry 14), and a word the host program has on the port is the command at
its place, which it holds until the block accepts it (R149). -/
structure State.Sound (s : State) : Prop where
  noWait : s.waitTimer = none
  seqRest : ∃ i : Instr, i.wellFormed s.numProfiles = true ∧ s.seq <:+ expand s.profiles i
  errFault : s.errIllegal = true → s.fault = true
  store : storeWellFormed s.profiles = true
  hostIndex : ∀ h, s.host = .mainLoop h → h.pos.hpc < h.rotation.length
  hostOffer : ∀ h, s.host = .mainLoop h → s.cmdPort = none ∨ s.cmdPort = some (encode h.command)

end Sys2Proof.Machine
end

