-- ==== Sys2Proof/Certificates/Slice0/Obligations.lean ====
section
/-! DEFINITION. The statements for the provers, one `def Obligations.<Name> : Prop` each. Each docstring names the rules of
spec/ it formalises. Nothing is proved here. -/

open Sys2Proof Sys2Proof.Machine

/-! ### Encoding (spec/30_encoding.md) -/

/-- Every well-formed command's word decodes to that command, with every operand at every value (R65 to R68, R82). -/
def Obligations.DecodeOfEncodeIsIdentity : Prop :=
  ∀ (n : Nat) (i : Instr), i.wellFormed n = true → decode n (encode i) = some i

/-- R82: decoding answers nothing exactly on the words R75 does not list, and otherwise a well-formed command whose opcode
and operand field are the word's, so that encoding it gives the word back. -/
def Obligations.DecodeTotalAndEncodeInverts : Prop :=
  ∀ (n : Nat) (w : CmdWord),
    (decode n w = none ↔ legal n w = false) ∧
    (∀ i, decode n w = some i →
      i.wellFormed n = true ∧ i.opcode = opField w ∧ i.arg = argField w ∧ encode i = w)

/-- R153, R160: the sub-causes. A word has one exactly when it is illegal; bad opcode comes first, then reserved bits, then
the index; SEND_REGISTER and the delays are never illegal. -/
def Obligations.IllegalCauseClassifies : Prop :=
  ∀ (n : Nat) (op : BitVec 8) (arg : Word),
    (illegalCause n (op ++ arg) = none ↔ ∃ i, decode n (op ++ arg) = some i) ∧
    (illegalCause n (op ++ arg) = some .badOpcode ↔ (op = 0x00#8 ∨ 0x09#8 ≤ op)) ∧
    (illegalCause n (op ++ arg) = some .reservedBits ↔
      (op = 0x01#8 ∧ arg.extractLsb' 3 29 ≠ 0#29) ∨ (op = 0x02#8 ∧ arg.extractLsb' 8 24 ≠ 0#24) ∨
      (op = 0x04#8 ∧ arg ≠ 0#32) ∨ (op = 0x05#8 ∧ arg ≠ 0#32) ∨ (op = 0x06#8 ∧ arg.extractLsb' 8 24 ≠ 0#24)) ∧
    (illegalCause n (op ++ arg) = some .indexOutOfRange ↔
      op = 0x06#8 ∧ arg.extractLsb' 8 24 = 0#24 ∧ n ≤ (arg.extractLsb' 0 8).toNat) ∧
    ((op = 0x03#8 ∨ op = 0x07#8 ∨ op = 0x08#8) → illegalCause n (op ++ arg) = none)

/-- R83: a word is legal exactly when it matches a row of the opcode table and, for APPLY_PROFILE, its index is below
NUM_PROFILES; the command has the row's mnemonic; no word matches two rows. -/
def Obligations.TableRowsAgreeWithDecoder : Prop :=
  ∀ (n : Nat) (w : CmdWord),
    (∀ r ∈ opcodeRows, r.matchesWord w = true → (r.mnemonic = "APPLY_PROFILE" → (byteField w).toNat < n) →
      ∃ i, decode n w = some i ∧ i.mnemonic = r.mnemonic) ∧
    (∀ i, decode n w = some i →
      (∃ r ∈ opcodeRows, r.matchesWord w = true ∧ r.mnemonic = i.mnemonic) ∧
      (i.mnemonic = "APPLY_PROFILE" → (byteField w).toNat < n)) ∧
    (∀ r ∈ opcodeRows, ∀ r' ∈ opcodeRows, r.matchesWord w = true → r'.matchesWord w = true → r = r')

/-- R81: the example encodings decode to the commands they stand for (a sanity statement). -/
def Obligations.ExampleWordsDecode : Prop :=
  decode 1 0x0100000005#40 = some (.setSignal .clock .high) ∧
  decode 1 0x0100000003#40 = some (.setSignal .chipSelect .low) ∧
  decode 1 0x0100000000#40 = some (.setSignal .data .low) ∧
  decode 1 0x02000000A5#40 = some (.sendByte 0xA5#8) ∧
  decode 1 0x0301400005#40 = some (.sendRegister 0x01400005#32) ∧
  decode 1 0x0400000000#40 = some .openTxn ∧
  decode 1 0x0500000000#40 = some .closeTxn ∧
  decode 1 0x0600000000#40 = some (.applyProfile 0#8) ∧
  decode 1 0x070000000A#40 = some (.delayUs 10#32) ∧
  decode 1 0x08000003E8#40 = some (.delayMs 1000#32) ∧
  decode 1 0x0800002710#40 = some (.delayMs 10000#32)

/-- R80: LINE_IDLE brings the lines to idle from every levels, and never changes DATA while CLOCK is HIGH; PULSE_LE makes a
latch pulse around its delay; APPLY_WORDS drives the same lines in the same order as APPLY_PROFILE of a profile with the same six words, and its
waits differ only in being MS(20) and MS(10) where the profile's are REG5_SETTLE and POST_SETTLE. -/
def Obligations.PseudoInstructionSequences : Prop :=
  ∀ (store : List Profile) (p : Profile),
    (∀ L : Lines, linesAfter L ((expandPseudo .lineIdle).flatMap (expand store)) = Lines.idle ∧
      breaksDataStability L ((expandPseudo .lineIdle).flatMap (expand store)) = false) ∧
    (∀ n : Word, (expandPseudo (.pulseLe n)).flatMap (expand store)
      = [.drive .latchEnable .high, .wait (.us n), .drive .latchEnable .low]) ∧
    drivesOf ((expandPseudo (.applyWords p.reg5 p.reg4 p.reg3 p.reg2 p.reg1 p.reg0)).flatMap (expand store))
      = drivesOf (expandApplyProfile p) ∧
    waitsOf ((expandPseudo (.applyWords p.reg5 p.reg4 p.reg3 p.reg2 p.reg1 p.reg0)).flatMap (expand store))
      = (waitsOf (expandApplyProfile p)).map
          (fun k => if k = .reg5Settle then .ms 20#32 else if k = .postSettle then .ms 10#32 else k)

/-! ### The accept of each command: its next state in full (spec/10_state.md R42)

Each equation names every field that changes; every other field of State is as before. -/

/-- R84: SET_SIGNAL's accept loads the one Drive, changes no flag and adds no mark, inside and outside a transaction. -/
def Obligations.SetSignalAccept : Prop :=
  ∀ (line : Signal) (level : Level) (s : State),
    exec (.setSignal line level) s = .next { s with
      traceRev := .accept (encode (.setSignal line level)) :: s.traceRev
      seq := [.drive line level] }

/-- R88, R91: the accept of a delay loads one Wait of its own kind and count, and changes no flag and no mark. -/
def Obligations.DelayAccept : Prop :=
  ∀ (n : Word) (s : State),
    exec (.delayUs n) s = .next { s with
      traceRev := .accept (encode (.delayUs n)) :: s.traceRev
      seq := [.wait (.us n)] } ∧
    exec (.delayMs n) s = .next { s with
      traceRev := .accept (encode (.delayMs n)) :: s.traceRev
      seq := [.wait (.ms n)] }

/-- R96: SEND_BYTE's accept loads, for i = 7 downto 0, the six micro-ops of bit i, leaves TXN_OPEN, and marks
V_OUTSIDE_TXN when no transaction is open. -/
def Obligations.SendByteAccept : Prop :=
  ∀ (v : Byte) (s : State),
    exec (.sendByte v) s = .next { s with
      traceRev := .accept (encode (.sendByte v)) :: s.traceRev
      viol := if s.txnOpen then s.viol else { s.viol with outsideTxn := true }
      seq := [7, 6, 5, 4, 3, 2, 1, 0].flatMap (fun i =>
        [.drive .data (bitLevel (v.getLsbD i)), .wait .setup, .drive .clock .high, .wait .pulse,
         .drive .clock .low, .wait .hold]) }

/-- R104, R105: SEND_REGISTER's accept loads, for j in 24, 16, 8, 0 and i = 7 downto 0, the six micro-ops of bit j + i of
the word, then the latch tail; it leaves TXN_OPEN, and marks V_OUTSIDE_TXN when no transaction is open. -/
def Obligations.SendRegisterAccept : Prop :=
  ∀ (w : Word) (s : State),
    exec (.sendRegister w) s = .next { s with
      traceRev := .accept (encode (.sendRegister w)) :: s.traceRev
      viol := if s.txnOpen then s.viol else { s.viol with outsideTxn := true }
      seq := [24, 16, 8, 0].flatMap (fun j => [7, 6, 5, 4, 3, 2, 1, 0].flatMap (fun i =>
        [.drive .data (bitLevel (w.getLsbD (j + i))), .wait .setup, .drive .clock .high, .wait .pulse,
         .drive .clock .low, .wait .hold]))
        ++ [.wait .short, .drive .latchEnable .high, .wait .latch, .drive .latchEnable .low, .wait .short] }

/-- R114: OPEN_TXN's accept sets TXN_OPEN, marks V_NEST when a transaction was open, and loads its 12 micro-ops. -/
def Obligations.OpenTxnAccept : Prop :=
  ∀ (s : State),
    exec .openTxn s = .next { s with
      traceRev := .accept (encode .openTxn) :: s.traceRev
      viol := if s.txnOpen then { s.viol with nest := true } else s.viol
      txnOpen := true
      seq :=
        [ .drive .chipSelect .high, .wait .step, .drive .latchEnable .high, .wait .settle,
          .drive .data .low, .wait .step, .drive .clock .low, .wait .step,
          .drive .chipSelect .low, .wait .settle, .drive .latchEnable .low, .wait .step ] }

/-- R120: CLOSE_TXN's accept clears TXN_OPEN, marks V_CLOSE_IDLE when no transaction was open, and loads its 6 micro-ops. -/
def Obligations.CloseTxnAccept : Prop :=
  ∀ (s : State),
    exec .closeTxn s = .next { s with
      traceRev := .accept (encode .closeTxn) :: s.traceRev
      viol := if s.txnOpen then s.viol else { s.viol with closeIdle := true }
      txnOpen := false
      seq :=
        [ .drive .clock .low, .wait .step, .drive .data .low, .wait .settle,
          .drive .chipSelect .high, .wait .settle ] }

/-- R128, R129: APPLY_PROFILE's accept, for an index of the store, clears TXN_OPEN, marks V_NEST when a transaction was
open, and loads the open bracket, register 5, its settle, registers 4, 3, 2, 1, 0, the close bracket and the post settle. -/
def Obligations.ApplyProfileAccept : Prop :=
  ∀ (k : Byte) (p : Profile) (s : State), s.profiles[k.toNat]? = some p →
    exec (.applyProfile k) s = .next { s with
      traceRev := .accept (encode (.applyProfile k)) :: s.traceRev
      viol := if s.txnOpen then { s.viol with nest := true } else s.viol
      txnOpen := false
      seq := expandOpenTxn ++ expandSendRegister p.reg5 ++ [.wait .reg5Settle]
        ++ expandSendRegister p.reg4 ++ expandSendRegister p.reg3 ++ expandSendRegister p.reg2
        ++ expandSendRegister p.reg1 ++ expandSendRegister p.reg0 ++ expandCloseTxn ++ [.wait .postSettle] }

/-- R128, R152: an APPLY_PROFILE whose index is not below NUM_PROFILES takes IllegalCommand: no micro-op, no profile, no
mark, TXN_OPEN unchanged. -/
def Obligations.ApplyProfileOutOfRangeIllegal : Prop :=
  ∀ (k : Byte) (s : State), s.profiles.length ≤ k.toNat →
    exec (.applyProfile k) s = .next { s with
      traceRev := .accept (encode (.applyProfile k)) :: s.traceRev
      errIllegal := true
      fault := true }

/-! ### One step (spec/10_state.md R38) -/

/-- A step runs the decoded command: when the word offered decodes to i and the block accepts it, the step is exec of i on
the state whose reset input and port have moved on by one step (R38, R42). That the host's next offer comes to the port in
this very step is the model's choice, log entry 9. -/
def Obligations.StepRunsDecodedCommand : Prop :=
  ∀ (s : State) (w : CmdWord) (i : Instr), s.Accepts w → decode s.profiles.length w = some i →
    step s = exec i { s with
      resetSchedule := s.resetSchedule.tail
      cmdPort := s.host.accepted.offer
      host := s.host.accepted.present }

/-- R152: IllegalCommand, at the accept of a word that is not legal: ERR_ILLEGAL and the fault mark are set, the trace
keeps the word, nothing else of the block changes, and it is ready for the next command in the next step. How the port and
the host move is the model's choice, log entry 9. -/
def Obligations.IllegalWordTakesIllegalCommand : Prop :=
  ∀ (s : State) (w : CmdWord), s.Accepts w → legal s.profiles.length w = false →
    ∃ t, step s = .next t ∧
      t = { s with
        traceRev := .accept w :: s.traceRev
        errIllegal := true
        fault := true
        resetSchedule := s.resetSchedule.tail
        cmdPort := s.host.accepted.offer
        host := s.host.accepted.present } ∧
      t.cmdReady = true

/-- R171: the reset step, from every state, busy or inside a wait or with a word offered: idle levels, SEQ empty, TXN_OPEN
and ERR_ILLEGAL 0, Reset in the trace, fault and viol kept, STATUS 0x80. -/
def Obligations.ResetStep : Prop :=
  ∀ (s : State), s.resetAsserted = true →
    ∃ t, step s = .next t ∧
      t.lines = { data := .low, clock := .low, latchEnable := .low, chipSelect := .high } ∧
      t.seq = [] ∧ t.txnOpen = false ∧ t.errIllegal = false ∧ t.waitTimer = none ∧
      t.trace = s.trace ++ [.reset] ∧ t.fault = s.fault ∧ t.viol = s.viol ∧ t.profiles = s.profiles ∧
      t.busy = false ∧ t.status = 0x80#8

/-- R43, R19, R20: a micro-step performs the head of SEQ. A Drive sets its own line and no other, and marks
V_DATA_WHILE_CLOCK_HIGH exactly when it changes DATA while CLOCK is HIGH; a Wait changes no line and no mark. -/
def Obligations.MicroStepPerformsHead : Prop :=
  ∀ (s : State) (m : MicroOp) (rest : List MicroOp),
    s.resetAsserted = false → s.waiting = false → s.seq = m :: rest →
    ∃ t, step s = .next t ∧ t.seq = rest ∧ t.trace = s.trace ++ [.op m] ∧ t.waitTimer = none ∧
      t.txnOpen = s.txnOpen ∧ t.errIllegal = s.errIllegal ∧ t.fault = s.fault ∧ t.profiles = s.profiles ∧
      t.busy = !rest.isEmpty ∧
      (∀ sig l, m = .drive sig l →
        t.lines.get sig = l ∧ (∀ sig', sig' ≠ sig → t.lines.get sig' = s.lines.get sig') ∧
        t.viol = if sig = .data ∧ s.lines.clock = .high ∧ l ≠ s.lines.data
          then { s.viol with dataWhileClockHigh := true } else s.viol) ∧
      (∀ k, m = .wait k → t.lines = s.lines ∧ t.viol = s.viol)

/-- R21: a command offered while BUSY is neither accepted nor lost: the step accepts nothing and the port keeps the word. That
the host stays as it is while BUSY, and that an empty port stays empty, is the model's choice, log entry 9. -/
def Obligations.BusyBlockKeepsOfferWaiting : Prop :=
  ∀ (s : State), s.busy = true → s.resetAsserted = false →
    ∃ t, step s = .next t ∧ t.cmdPort = s.cmdPort ∧ t.host = s.host ∧ s.cmdReady = false ∧
      (∀ w, t.trace ≠ s.trace ++ [.accept w])

/-- R38, R168: with BUSY = 0 and nothing offered the block is quiescent: no line, no flag, no mark and no event. That the
host's next offer comes to the port in this step is the model's choice, log entry 9. -/
def Obligations.QuiescentStepChangesNothing : Prop :=
  ∀ (s : State), s.busy = false → s.waiting = false → s.resetAsserted = false → s.cmdPort = none →
    step s = .next { s with
      resetSchedule := s.resetSchedule.tail
      cmdPort := s.host.offer
      host := s.host.present }

/-- R35: no step of the block ends in a fault or a refusal. -/
def Obligations.StepAlwaysNext : Prop :=
  ∀ (s : State), ∃ t, step s = .next t

/-! ### Status (spec/10_state.md R24 to R28, R39) -/

/-- R25, R28: the bits of STATUS. -/
def Obligations.StatusBits : Prop :=
  ∀ (s : State),
    s.status.getLsbD 0 = !s.seq.isEmpty ∧ s.status.getLsbD 1 = s.txnOpen ∧ s.status.getLsbD 2 = s.errIllegal ∧
    s.status.getLsbD 3 = false ∧
    (s.status.getLsbD 4 = true ↔ s.lines.data = .high) ∧ (s.status.getLsbD 5 = true ↔ s.lines.clock = .high) ∧
    (s.status.getLsbD 6 = true ↔ s.lines.latchEnable = .high) ∧
    (s.status.getLsbD 7 = true ↔ s.lines.chipSelect = .high)

/-- R39: what reset leaves, at State.reset: the fields the spec gives a value. -/
def Obligations.ResetStateValues : Prop :=
  State.reset.lines = { data := .low, clock := .low, latchEnable := .low, chipSelect := .high } ∧
  State.reset.seq = [] ∧ State.reset.busy = false ∧ State.reset.txnOpen = false ∧ State.reset.errIllegal = false ∧
  State.reset.status = 0x80#8 ∧ State.reset.waitTimer = none ∧ State.reset.trace = [.reset] ∧
  State.reset.fault = false ∧ State.reset.viol = Violations.none

/-- R26: TXN_OPEN changes only at the accept of a legal command, to that command's post value, and at reset; the protocol
check of an accept reads the value before the write. -/
def Obligations.TxnOpenChangesOnlyAtAcceptAndReset : Prop :=
  ∀ (s t : State), step s = .next t →
    (s.resetAsserted = true → t.txnOpen = false) ∧
    (s.resetAsserted = false → (∀ w, ¬ s.Accepts w) → t.txnOpen = s.txnOpen) ∧
    (∀ w, s.Accepts w → decode s.profiles.length w = none → t.txnOpen = s.txnOpen ∧ t.viol = s.viol) ∧
    (∀ w i, s.Accepts w → decode s.profiles.length w = some i →
      t.txnOpen = postTxn s.txnOpen i ∧ t.viol = addMark s.viol (protocolMark s.txnOpen i))

/-- R27: ERR_ILLEGAL is set at the accept of an illegal command and by nothing else, and only reset clears it. -/
def Obligations.ErrIllegalStickyUntilReset : Prop :=
  ∀ (s t : State), step s = .next t →
    (s.resetAsserted = true → t.errIllegal = false) ∧
    (s.resetAsserted = false → s.errIllegal = true → t.errIllegal = true) ∧
    (s.resetAsserted = false → s.errIllegal = false →
      (t.errIllegal = true ↔ ∃ w, s.Accepts w ∧ legal s.profiles.length w = false))

/-- R33, R34, R36: no step clears the fault mark or a violation mark, not even reset, and no step takes an event out of the
trace or adds more than one. -/
def Obligations.GhostMarksNeverCleared : Prop :=
  ∀ (s t : State), step s = .next t →
    (s.fault = true → t.fault = true) ∧ (∀ v, s.viol.has v = true → t.viol.has v = true) ∧
    (t.trace = s.trace ∨ ∃ e, t.trace = s.trace ++ [e])

/-- R30: no step writes the profile store. -/
def Obligations.ProfileStoreNeverWritten : Prop :=
  ∀ (s t : State), step s = .next t → t.profiles = s.profiles

/-- R20, R54: without a reset, a line whose level changes in a step is the line of the Drive that step performed, so at
most one line changes. -/
def Obligations.OnlyADriveChangesALine : Prop :=
  ∀ (s t : State) (sig : Signal), step s = .next t → s.resetAsserted = false → t.lines.get sig ≠ s.lines.get sig →
    (∃ rest, s.seq = .drive sig (t.lines.get sig) :: rest) ∧
    (∀ sig', sig' ≠ sig → t.lines.get sig' = s.lines.get sig')

/-- R12: the micro-op sequence a command is given depends on the command and the store alone: in any two states with the same
store its accept loads the same SEQ, whatever their lines, flags and traces. -/
def Obligations.SequenceIndependentOfLines : Prop :=
  ∀ (i : Instr) (s t s' t' : State), s.profiles = s'.profiles → i.wellFormed s.profiles.length = true →
    exec i s = .next t → exec i s' = .next t' → t.seq = t'.seq

/-! ### Invariants every step keeps -/

/-- Every step keeps the block sound: no wait in progress between steps, SEQ the rest of a legal command's sequence,
ERR_ILLEGAL only with the fault mark, 1 to 256 profiles, the host program's index in range and its word on the port the
command at its place (R23, R24, R27, R34, R39, R144, R149). In BRINGUP the index reads 0 by the model's choice, log entry 14. -/
def Obligations.SoundKeptByStep : Prop :=
  ∀ (s t : State), s.Sound → step s = .next t → t.Sound

/-- Both invariants hold at State.reset. It holds the store of log entry 1 and the empty stream of log entry 2, which are the
model's choices. -/
def Obligations.InvariantsHoldAtReset : Prop := State.reset.Sound ∧ State.reset.TraceAgrees

/-- R23: in a sound state SEQ holds at most 1202 micro-ops. -/
def Obligations.SeqLengthAtMost1202 : Prop :=
  ∀ (s : State), s.Sound → s.seq.length ≤ 1202

/-- R41: every step keeps the state in agreement with its trace: the lines are the waveform's last levels, TXN_OPEN and
ERR_ILLEGAL what the accepts since the last reset made them, the fault mark whether an illegal word was ever accepted. -/
def Obligations.TraceAgreesKeptByStep : Prop :=
  ∀ (s t : State), s.TraceAgrees → step s = .next t → t.TraceAgrees

/-! ### Whole commands -/

/-- R45, R58: from every state in which a legal command is accepted and no reset comes, the machine after the accept and n
micro-steps has run exactly the first n micro-ops of its sequence: their events in order, their effect on the lines, their
marks; after all of them BUSY is 0. Nothing else of the block has changed. The last two clauses, that the port and the host
have moved on once, are the model's choice, log entry 9. -/
def Obligations.LegalCommandRunsItsSequence : Prop :=
  ∀ (s : State) (i : Instr) (n : Nat), s.Runs i → n ≤ (expand s.profiles i).length →
    ∃ t, runFor (1 + n) s = .next t ∧
      t.trace = s.trace ++ .accept (encode i) :: ((expand s.profiles i).take n).map Event.op ∧
      t.seq = (expand s.profiles i).drop n ∧
      t.lines = linesAfter s.lines ((expand s.profiles i).take n) ∧
      t.txnOpen = postTxn s.txnOpen i ∧ t.errIllegal = s.errIllegal ∧ t.fault = s.fault ∧ t.waitTimer = none ∧
      t.profiles = s.profiles ∧
      t.viol = addMark (addMark s.viol (protocolMark s.txnOpen i))
        (if breaksDataStability s.lines ((expand s.profiles i).take n) then some .dataWhileClockHigh else none) ∧
      (t.busy = true ↔ n < (expand s.profiles i).length) ∧
      t.cmdPort = s.host.accepted.offer ∧ t.host = s.host.accepted.present

/-- R172: a reset after n micro-ops of a command discards the rest: the trace ends with those n and Reset, the lines are
idle, BUSY is 0, and no mark is added by the reset. -/
def Obligations.ResetCutsCommand : Prop :=
  ∀ (s : State) (i : Instr) (n : Nat) (later : List Bool),
    s.Accepts (encode i) → i.wellFormed s.profiles.length = true → n ≤ (expand s.profiles i).length →
    s.resetSchedule = List.replicate (1 + n) false ++ true :: later →
    ∃ t u, runFor (1 + n) s = .next t ∧ step t = .next u ∧
      u.trace = s.trace ++ .accept (encode i) :: ((expand s.profiles i).take n).map Event.op ++ [.reset] ∧
      u.seq = [] ∧ u.lines = Lines.idle ∧ u.status = 0x80#8 ∧ u.viol = t.viol

/-- R84: after SET_SIGNAL has run, its line has its level and the other three are as before; TXN_OPEN too, even when the
line is CHIP_SELECT. -/
def Obligations.SetSignalEndState : Prop :=
  ∀ (s : State) (line : Signal) (level : Level), s.Runs (.setSignal line level) →
    ∃ t, runFor 2 s = .next t ∧ t.busy = false ∧ t.lines.get line = level ∧
      (∀ other, other ≠ line → t.lines.get other = s.lines.get other) ∧ t.txnOpen = s.txnOpen ∧
      t.trace = s.trace ++ [.accept (encode (.setSignal line level)), .op (.drive line level)]

/-- R88, R91, R92: a delay sets BUSY for one step, touches no line, and leaves one Wait of its own kind in the trace. -/
def Obligations.DelayEndState : Prop :=
  ∀ (s : State) (n : Word) (i : Instr) (k : WaitKind), ((i = .delayUs n ∧ k = .us n) ∨ (i = .delayMs n ∧ k = .ms n)) →
    s.Runs i →
    ∃ t u, runFor 1 s = .next t ∧ t.busy = true ∧ step t = .next u ∧ u.busy = false ∧ t.lines = s.lines ∧
      u.lines = s.lines ∧ u.viol = s.viol ∧ u.txnOpen = s.txnOpen ∧
      u.trace = s.trace ++ [.accept (encode i), .op (.wait k)]

/-- R98: after SEND_BYTE, CLOCK is LOW and DATA has the level of bit 0; LATCH_ENABLE and CHIP_SELECT are as before,
whatever the lines were at entry. -/
def Obligations.SendByteEndState : Prop :=
  ∀ (s : State) (v : Byte), s.Runs (.sendByte v) →
    ∃ t, runFor 49 s = .next t ∧ t.busy = false ∧ t.lines.clock = .low ∧ t.lines.data = bitLevel (v.getLsbD 0) ∧
      t.lines.latchEnable = s.lines.latchEnable ∧ t.lines.chipSelect = s.lines.chipSelect

/-- R108: after SEND_REGISTER, CLOCK and LATCH_ENABLE are LOW, DATA has the level of bit 0, CHIP_SELECT is as before. -/
def Obligations.SendRegisterEndState : Prop :=
  ∀ (s : State) (w : Word), s.Runs (.sendRegister w) →
    ∃ t, runFor 198 s = .next t ∧ t.busy = false ∧ t.lines.clock = .low ∧ t.lines.latchEnable = .low ∧
      t.lines.data = bitLevel (w.getLsbD 0) ∧ t.lines.chipSelect = s.lines.chipSelect

/-- R115: after OPEN_TXN all four lines are LOW, whatever they were at entry. -/
def Obligations.OpenTxnEndState : Prop :=
  ∀ (s : State), s.Runs .openTxn →
    ∃ t, runFor 13 s = .next t ∧ t.busy = false ∧ t.lines.data = .low ∧ t.lines.clock = .low ∧
      t.lines.latchEnable = .low ∧ t.lines.chipSelect = .low ∧ t.txnOpen = true

/-- R121, R122: after CLOSE_TXN, CLOCK and DATA are LOW and CHIP_SELECT is HIGH, whatever they were; LATCH_ENABLE is left. -/
def Obligations.CloseTxnEndState : Prop :=
  ∀ (s : State), s.Runs .closeTxn →
    ∃ t, runFor 7 s = .next t ∧ t.busy = false ∧ t.lines.clock = .low ∧ t.lines.data = .low ∧
      t.lines.chipSelect = .high ∧ t.lines.latchEnable = s.lines.latchEnable ∧ t.txnOpen = false

/-- R131: after APPLY_PROFILE the block is in the full idle state and TXN_OPEN is 0, from every start state. -/
def Obligations.ApplyProfileEndState : Prop :=
  ∀ (s : State) (k : Byte), s.Runs (.applyProfile k) →
    ∃ t, runFor 1203 s = .next t ∧ t.busy = false ∧ t.lines = Lines.idle ∧ t.txnOpen = false

/-- R137: the same profile twice in a row gives the same 1203 events twice. -/
def Obligations.ProfileTwiceSameEvents : Prop :=
  ∀ (s t u : State) (k : Byte), s.Runs (.applyProfile k) → runFor 1203 s = .next t →
    t.Runs (.applyProfile k) → runFor 1203 t = .next u →
    ∃ events : List Event, events.length = 1203 ∧ t.trace = s.trace ++ events ∧ u.trace = s.trace ++ events ++ events

/-- R176, and the Violations of R84, R96, R104, R114, R120, R128: exactly when each command changes DATA while CLOCK is
HIGH, by the levels at its entry. -/
def Obligations.DataStabilityBreachConditions : Prop :=
  ∀ (L : Lines),
    (∀ sig l, breaksDataStability L (expandSetSignal sig l) = true ↔ sig = .data ∧ L.clock = .high ∧ l ≠ L.data) ∧
    (∀ v, breaksDataStability L (expandSendByte v) = true ↔ L.clock = .high ∧ bitLevel (v.getLsbD 7) ≠ L.data) ∧
    (∀ w, breaksDataStability L (expandSendRegister w) = true ↔ L.clock = .high ∧ bitLevel (w.getLsbD 31) ≠ L.data) ∧
    (breaksDataStability L expandOpenTxn = true ↔ L.clock = .high ∧ L.data = .high) ∧
    breaksDataStability L expandCloseTxn = false ∧
    (∀ p, breaksDataStability L (expandApplyProfile p) = true ↔ L.clock = .high ∧ L.data = .high)

/-! ### Counts and positions -/

/-- R99: the counts of SEND_BYTE. -/
def Obligations.SendByteCounts : Prop :=
  ∀ (v : Byte) (L : Lines),
    (expandSendByte v).countP (fun m => m.isDrive) = 24 ∧
    (expandSendByte v).countP (fun m => decide (m = .drive .data .low ∨ m = .drive .data .high)) = 8 ∧
    (expandSendByte v).countP (fun m => decide (m = .drive .clock .low ∨ m = .drive .clock .high)) = 16 ∧
    (waitsOf (expandSendByte v)).length = 24 ∧ (waitsOf (expandSendByte v)).count .setup = 8 ∧
    (waitsOf (expandSendByte v)).count .pulse = 8 ∧ (waitsOf (expandSendByte v)).count .hold = 8 ∧
    (L.clock = .low → risingEdges L (expandSendByte v) = 8)

/-- R107: the counts of SEND_REGISTER. -/
def Obligations.SendRegisterCounts : Prop :=
  ∀ (w : Word) (L : Lines),
    (expandSendRegister w).countP (fun m => m.isDrive) = 98 ∧
    (expandSendRegister w).countP (fun m => decide (m = .drive .data .low ∨ m = .drive .data .high)) = 32 ∧
    (expandSendRegister w).countP (fun m => decide (m = .drive .clock .low ∨ m = .drive .clock .high)) = 64 ∧
    (expandSendRegister w).countP (fun m => decide (m = .drive .latchEnable .low ∨ m = .drive .latchEnable .high)) = 2 ∧
    (waitsOf (expandSendRegister w)).length = 99 ∧ (waitsOf (expandSendRegister w)).count .setup = 32 ∧
    (waitsOf (expandSendRegister w)).count .pulse = 32 ∧ (waitsOf (expandSendRegister w)).count .hold = 32 ∧
    (waitsOf (expandSendRegister w)).count .short = 2 ∧ (waitsOf (expandSendRegister w)).count .latch = 1 ∧
    (expandSendRegister w).count (.drive .latchEnable .high) = 1 ∧
    (L.clock = .low → risingEdges L (expandSendRegister w) = 32)

/-- R132: what stands where in APPLY_PROFILE's 1202 micro-ops, and how many of them are Drives, waits and rising edges. -/
def Obligations.ApplyProfilePositions : Prop :=
  ∀ (p : Profile) (L : Lines),
    (expandApplyProfile p).length = 1202 ∧
    (expandApplyProfile p).take 12 = expandOpenTxn ∧
    ((expandApplyProfile p).drop 12).take 197 = expandSendRegister p.reg5 ∧
    (expandApplyProfile p)[209]? = some (.wait .reg5Settle) ∧
    ((expandApplyProfile p).drop 210).take 197 = expandSendRegister p.reg4 ∧
    ((expandApplyProfile p).drop 407).take 197 = expandSendRegister p.reg3 ∧
    ((expandApplyProfile p).drop 604).take 197 = expandSendRegister p.reg2 ∧
    ((expandApplyProfile p).drop 801).take 197 = expandSendRegister p.reg1 ∧
    ((expandApplyProfile p).drop 998).take 197 = expandSendRegister p.reg0 ∧
    ((expandApplyProfile p).drop 1195).take 6 = expandCloseTxn ∧
    (expandApplyProfile p).drop 1201 = [.wait .postSettle] ∧
    (expandApplyProfile p).countP (fun m => m.isDrive) = 597 ∧
    (waitsOf (expandApplyProfile p)).length = 605 ∧
    (expandApplyProfile p).count (.drive .latchEnable .high) = 7 ∧
    risingEdges L (expandApplyProfile p) = 192

/-- R188: the micro-ops and the nominal wait of each command, in microseconds, and of the host's two units. -/
def Obligations.NominalWaitPerCommand : Prop :=
  ∀ (store : List Profile) (k : Byte) (p : Profile), store[k.toNat]? = some p →
    (∀ sig l, (expand store (.setSignal sig l)).length = 1 ∧ nominalTotal (expand store (.setSignal sig l)) = 0) ∧
    (∀ n : Word, (expand store (.delayUs n)).length = 1 ∧ nominalTotal (expand store (.delayUs n)) = n.toNat) ∧
    (∀ n : Word, (expand store (.delayMs n)).length = 1 ∧ nominalTotal (expand store (.delayMs n)) = 1000 * n.toNat) ∧
    (∀ v, (expand store (.sendByte v)).length = 48 ∧ nominalTotal (expand store (.sendByte v)) = 64) ∧
    (∀ w, (expand store (.sendRegister w)).length = 197 ∧ nominalTotal (expand store (.sendRegister w)) = 270) ∧
    ((expand store .openTxn).length = 12 ∧ nominalTotal (expand store .openTxn) = 28) ∧
    ((expand store .closeTxn).length = 6 ∧ nominalTotal (expand store .closeTxn) = 22) ∧
    ((expand store (.applyProfile k)).length = 1202 ∧ nominalTotal (expand store (.applyProfile k)) = 31670) ∧
    nominalTotal ((bringupUnit k).flatMap (expand store)) = 1000000 + 31670 + 10000000 ∧
    nominalTotal ((rotateUnit k).flatMap (expand store)) = 31670 + 10000000

/-- R48, R49: SEND_REGISTER drives DATA to the 32 bits of the word from bit 31 down to bit 0. -/
def Obligations.RegisterBitsMostSignificantFirst : Prop :=
  ∀ (w : Word),
    (expandSendRegister w).filter (fun m => decide (m = .drive .data .low ∨ m = .drive .data .high))
      = (List.range 32).reverse.map (fun i => MicroOp.drive .data (bitLevel (w.getLsbD i)))

/-! ### What the target observer receives (spec/20_memory.md R50 to R52) -/

/-- R96, R50: after SEND_BYTE entered with CLOCK LOW the observer has sampled the byte's eight bits, bit 7 first; entered
with CLOCK HIGH it has sampled seven, bit 6 first. No latch pulse is made (R102). -/
def Obligations.SendByteSampled : Prop :=
  ∀ (s t : State) (v : Byte), s.TraceAgrees → s.Runs (.sendByte v) → runFor 49 s = .next t →
    latchPulses t.trace = latchPulses s.trace ∧
    (s.lines.clock = .low →
      sampled t.trace = sampled s.trace ++ [7, 6, 5, 4, 3, 2, 1, 0].map (fun i => v.getLsbD i)) ∧
    (s.lines.clock = .high →
      sampled t.trace = sampled s.trace ++ [6, 5, 4, 3, 2, 1, 0].map (fun i => v.getLsbD i))

/-- R51, R113: SEND_REGISTER entered with CHIP_SELECT, CLOCK and LATCH_ENABLE LOW adds the word's 32 bits, most significant
first, and one latch pulse; when no rising edge came since the previous pulse (or the start, or the last Reset) the pulse is
clean and commits the word. Entered with CHIP_SELECT HIGH and LATCH_ENABLE LOW it commits nothing. Entered with CHIP_SELECT and
LATCH_ENABLE LOW and CLOCK HIGH it samples bits 30 to 0, and after a window of one bit its pulse is clean with that bit in
front. Entered with LATCH_ENABLE HIGH it only ends the pulse that has risen, and its bits stay in the window (R50, R104). -/
def Obligations.SendRegisterCommitsItsWord : Prop :=
  ∀ (s t : State) (w : Word), s.TraceAgrees → s.Runs (.sendRegister w) → runFor 198 s = .next t →
    (s.lines.chipSelect = .low → s.lines.clock = .low → s.lines.latchEnable = .low →
      sampled t.trace = sampled s.trace ++ (List.range 32).reverse.map (fun i => w.getLsbD i) ∧
      (∃ p, latchPulses t.trace = latchPulses s.trace ++ [p] ∧
        ((observe s.trace).window = [] → p.clean = true ∧ p.word = w)) ∧
      ((observe s.trace).window = [] → committed t.trace = committed s.trace ++ [w]) ∧
      t.lines.chipSelect = .low) ∧
    (s.lines.chipSelect = .high → s.lines.latchEnable = .low → committed t.trace = committed s.trace) ∧
    (s.lines.chipSelect = .low → s.lines.clock = .high → s.lines.latchEnable = .low →
      sampled t.trace = sampled s.trace ++ (List.range 31).reverse.map (fun i => w.getLsbD i) ∧
      ∃ p, latchPulses t.trace = latchPulses s.trace ++ [p] ∧
        (∀ b : Bool, (observe s.trace).window = [{ bit := b, chipSelect := .low }] →
          p.clean = true ∧ p.word = BitVec.ofBool b ++ w.extractLsb' 0 31)) ∧
    (s.lines.latchEnable = .high →
      ∃ q, (observe s.trace).rising = some q ∧ latchPulses t.trace = latchPulses s.trace ++ [q] ∧
        (observe t.trace).window = (observe s.trace).window ++
          (List.range (if s.lines.clock = .low then 32 else 31)).reverse.map
            (fun i => { bit := w.getLsbD i, chipSelect := s.lines.chipSelect }))

/-- R119: OPEN_TXN entered with LATCH_ENABLE LOW makes one pulse, which is not clean, so nothing is committed; the next
window of bits is empty. -/
def Obligations.OpenTxnCommitsNothing : Prop :=
  ∀ (s t : State), s.TraceAgrees → s.Runs .openTxn → runFor 13 s = .next t → s.lines.latchEnable = .low →
    (∃ p, latchPulses t.trace = latchPulses s.trace ++ [p] ∧ p.clean = false) ∧
    committed t.trace = committed s.trace ∧ sampled t.trace = sampled s.trace ∧ (observe t.trace).window = []

/-- R133: what APPLY_PROFILE commits. Entered with LATCH_ENABLE LOW: one pulse that is not clean, then six clean ones with
the words of registers 5 to 0. Entered with it HIGH: registers 4 to 0 are committed in either case, and register 5's pulse
is clean exactly if no rising edge came since its window began, and then has register 5's word. -/
def Obligations.ApplyProfileCommitsSixWords : Prop :=
  ∀ (s t : State) (k : Byte) (p : Profile), s.TraceAgrees → s.Runs (.applyProfile k) →
    s.profiles[k.toNat]? = some p → runFor 1203 s = .next t →
    (s.lines.latchEnable = .low →
      committed t.trace = committed s.trace ++ [p.reg5, p.reg4, p.reg3, p.reg2, p.reg1, p.reg0] ∧
      ∃ q ps, latchPulses t.trace = latchPulses s.trace ++ q :: ps ∧ q.clean = false ∧ ps.length = 6 ∧
        ps.all LatchPulse.clean = true) ∧
    (s.lines.latchEnable = .high →
      ∃ q r ps, latchPulses t.trace = latchPulses s.trace ++ q :: r :: ps ∧
        (r.clean = true → (observe s.trace).window = []) ∧
        ((observe s.trace).window = [] → r.clean = true ∧ r.word = p.reg5) ∧
        ps.all LatchPulse.clean = true ∧ ps.map LatchPulse.word = [p.reg4, p.reg3, p.reg2, p.reg1, p.reg0])

/-! ### The host program (spec/44_host_control_loop.md) -/

/-- R142, R147: from its start the host program issues bringup() and then stands at the first rotate step. -/
def Obligations.HostBringupSequence : Prop :=
  ∀ (h : HostLoop), h.pos = .powerUp →
    h.commands 3 = [.delayMs 1000#32, .applyProfile h.bringup, .delayMs 10000#32] ∧
    (h.advanceBy 3).pos = .rotateApply 0 ∧ (h.advanceBy 3).pos.hstate = .rotate

/-- R148: the n-th APPLY_PROFILE after BRINGUP has operand ROTATION[n mod length(ROTATION)] and is followed by exactly one
DELAY_MS 10000 before the next. -/
def Obligations.HostRotationProperty : Prop :=
  ∀ (h : HostLoop) (n : Nat), h.pos = .powerUp →
    (∃ b, h.rotation[n % h.rotation.length]? = some b ∧ (h.advanceBy (3 + 2 * n)).command = .applyProfile b) ∧
    (h.advanceBy (3 + 2 * n + 1)).command = .delayMs 10000#32

/-- R145: a launch with an empty ROTATION is refused; one with indices of the store starts in BRINGUP. -/
def Obligations.LaunchRefusesEmptyRotation : Prop :=
  ∀ (bringup : Byte) (s : State),
    launch bringup [] s = .refused .emptyRotation ∧
    (∀ (head : Byte) (tail : List Byte), bringup.toNat < s.profiles.length →
      (∀ b ∈ head :: tail, b.toNat < s.profiles.length) →
      ∃ t h, launch bringup (head :: tail) s = .next t ∧ t.host = .mainLoop h ∧ h.pos.hstate = .bringup ∧
        h.bringup = bringup ∧ h.rotation = head :: tail ∧ t.lines = s.lines ∧ t.seq = s.seq ∧ t.trace = s.trace)

/-- R146: a reset of the block is also a reset of the host program, which re-enters BRINGUP with the same parameters. The
last clause, that the word it was offering is withdrawn from the port, is the model's choice, log entry 9. -/
def Obligations.ResetRestartsHostProgram : Prop :=
  ∀ (s : State) (h : HostLoop), s.host = .mainLoop h → s.resetAsserted = true →
    ∃ t h', step s = .next t ∧ t.host = .mainLoop h' ∧ h'.pos.hstate = .bringup ∧
      h'.commands 3 = bringupUnit h.bringup ∧ h'.rotation = h.rotation ∧ t.cmdPort = none

/-! ### The timed reading (spec/70_reset_and_hazards.md R186, R187) -/

/-- R44, R187: in every timed reading of a trace without resets, whatever `admissible` is, the time between two events is at
least the sum of the least admissible times of the waits between them. -/
def Obligations.TimedReadingLowerBound : Prop :=
  ∀ (admissible : WaitKind → Set Duration) (atLeast : WaitKind → Duration),
    (∀ k, ∀ d ∈ admissible k, atLeast k ≤ d) →
    ∀ (first last : Event × Duration) (between : List (Event × Duration)),
      Timed admissible (first :: between ++ [last]) →
      (∀ e ∈ first :: between ++ [last], e.1 ≠ .reset) →
      first.2 + (((first :: between).map (fun e => e.1.leastTime atLeast)).sum) ≤ last.2

/-- R8, R186: the nominal reading of a trace is a timed reading for the simulator's default of `admissible`. -/
def Obligations.NominalReadingIsTimed : Prop :=
  ∀ (events : List Event) (t : Duration), Timed nominalAdmit (nominalReading t events)

/-! ### When the host program moves (spec/44_host_control_loop.md R149) -/

/-- R142, R143, R149: the host program issues a command only when the block accepts it. A step that accepts a word moves it to
its next place; every other step without a reset leaves it, and leaves the word it has on the port. In a sound state the word
accepted is the command at its place; hstate and hpc change only at the accept of a dwell, and hpc then wraps modulo
length(ROTATION). That its next word comes to the port in the accepting step is the model's choice, log entry 9; so is the
value of hpc in BRINGUP, before R142 sets it, log entry 14. -/
def Obligations.HostIssuesWhenAccepted : Prop :=
  ∀ (s t : State) (h : HostLoop), s.host = .mainLoop h → s.resetAsserted = false → step s = .next t →
    (∀ w, s.Accepts w →
      t.host = .mainLoop h.advance ∧ t.cmdPort = some (encode h.advance.command) ∧ (s.Sound → w = encode h.command) ∧
      (h.advance.pos.hstate ≠ h.pos.hstate ∨ h.advance.pos.hpc ≠ h.pos.hpc → h.command = .delayMs 10000#32) ∧
      (h.pos = .bringupDwell → h.advance.pos = .rotateApply 0) ∧
      (∀ n, h.pos = .rotateDwell n → h.advance.pos = .rotateApply ((n + 1) % h.rotation.length))) ∧
    ((∀ w, ¬ s.Accepts w) → t.host = .mainLoop h ∧ (∀ w, s.cmdPort = some w → t.cmdPort = some w))
end

