-- ==== Sys2Proof/Laws/State.lean ====
section
/-! SUPPORT. One lemma for each field and each update of State by a named operation, true by rfl and tagged for simp, so
that no later proof unfolds an operation to read a field. -/

namespace Sys2Proof.Machine

/-! ### emit -/

@[simp] theorem State.emit_lines (e : Event) (s : State) : (s.emit e).lines = s.lines := rfl
@[simp] theorem State.emit_seq (e : Event) (s : State) : (s.emit e).seq = s.seq := rfl
@[simp] theorem State.emit_txnOpen (e : Event) (s : State) : (s.emit e).txnOpen = s.txnOpen := rfl
@[simp] theorem State.emit_errIllegal (e : Event) (s : State) : (s.emit e).errIllegal = s.errIllegal := rfl
@[simp] theorem State.emit_waitTimer (e : Event) (s : State) : (s.emit e).waitTimer = s.waitTimer := rfl
@[simp] theorem State.emit_traceRev (e : Event) (s : State) : (s.emit e).traceRev = e :: s.traceRev := rfl
@[simp] theorem State.emit_fault (e : Event) (s : State) : (s.emit e).fault = s.fault := rfl
@[simp] theorem State.emit_viol (e : Event) (s : State) : (s.emit e).viol = s.viol := rfl
@[simp] theorem State.emit_profiles (e : Event) (s : State) : (s.emit e).profiles = s.profiles := rfl
@[simp] theorem State.emit_cmdPort (e : Event) (s : State) : (s.emit e).cmdPort = s.cmdPort := rfl
@[simp] theorem State.emit_host (e : Event) (s : State) : (s.emit e).host = s.host := rfl
@[simp] theorem State.emit_resetSchedule (e : Event) (s : State) : (s.emit e).resetSchedule = s.resetSchedule := rfl

/-! ### startWait -/

@[simp] theorem State.startWait_lines (k : WaitKind) (s : State) : (s.startWait k).lines = s.lines := rfl
@[simp] theorem State.startWait_seq (k : WaitKind) (s : State) : (s.startWait k).seq = s.seq := rfl
@[simp] theorem State.startWait_txnOpen (k : WaitKind) (s : State) : (s.startWait k).txnOpen = s.txnOpen := rfl
@[simp] theorem State.startWait_errIllegal (k : WaitKind) (s : State) : (s.startWait k).errIllegal = s.errIllegal := rfl
@[simp] theorem State.startWait_waitTimer (k : WaitKind) (s : State) : (s.startWait k).waitTimer = some k := rfl
@[simp] theorem State.startWait_traceRev (k : WaitKind) (s : State) : (s.startWait k).traceRev = s.traceRev := rfl
@[simp] theorem State.startWait_fault (k : WaitKind) (s : State) : (s.startWait k).fault = s.fault := rfl
@[simp] theorem State.startWait_viol (k : WaitKind) (s : State) : (s.startWait k).viol = s.viol := rfl
@[simp] theorem State.startWait_profiles (k : WaitKind) (s : State) : (s.startWait k).profiles = s.profiles := rfl
@[simp] theorem State.startWait_cmdPort (k : WaitKind) (s : State) : (s.startWait k).cmdPort = s.cmdPort := rfl
@[simp] theorem State.startWait_host (k : WaitKind) (s : State) : (s.startWait k).host = s.host := rfl
@[simp] theorem State.startWait_resetSchedule (k : WaitKind) (s : State) : (s.startWait k).resetSchedule = s.resetSchedule := rfl

/-! ### endWait -/

@[simp] theorem State.endWait_lines (s : State) : s.endWait.lines = s.lines := rfl
@[simp] theorem State.endWait_seq (s : State) : s.endWait.seq = s.seq := rfl
@[simp] theorem State.endWait_txnOpen (s : State) : s.endWait.txnOpen = s.txnOpen := rfl
@[simp] theorem State.endWait_errIllegal (s : State) : s.endWait.errIllegal = s.errIllegal := rfl
@[simp] theorem State.endWait_waitTimer (s : State) : s.endWait.waitTimer = none := rfl
@[simp] theorem State.endWait_traceRev (s : State) : s.endWait.traceRev = s.traceRev := rfl
@[simp] theorem State.endWait_fault (s : State) : s.endWait.fault = s.fault := rfl
@[simp] theorem State.endWait_viol (s : State) : s.endWait.viol = s.viol := rfl
@[simp] theorem State.endWait_profiles (s : State) : s.endWait.profiles = s.profiles := rfl
@[simp] theorem State.endWait_cmdPort (s : State) : s.endWait.cmdPort = s.cmdPort := rfl
@[simp] theorem State.endWait_host (s : State) : s.endWait.host = s.host := rfl
@[simp] theorem State.endWait_resetSchedule (s : State) : s.endWait.resetSchedule = s.resetSchedule := rfl

/-! ### runWait -/

@[simp] theorem State.runWait_lines (k : WaitKind) (s : State) : (s.runWait k).lines = s.lines := rfl
@[simp] theorem State.runWait_seq (k : WaitKind) (s : State) : (s.runWait k).seq = s.seq := rfl
@[simp] theorem State.runWait_txnOpen (k : WaitKind) (s : State) : (s.runWait k).txnOpen = s.txnOpen := rfl
@[simp] theorem State.runWait_errIllegal (k : WaitKind) (s : State) : (s.runWait k).errIllegal = s.errIllegal := rfl
@[simp] theorem State.runWait_waitTimer (k : WaitKind) (s : State) : (s.runWait k).waitTimer = none := rfl
@[simp] theorem State.runWait_traceRev (k : WaitKind) (s : State) : (s.runWait k).traceRev = .op (.wait k) :: s.traceRev := rfl
@[simp] theorem State.runWait_fault (k : WaitKind) (s : State) : (s.runWait k).fault = s.fault := rfl
@[simp] theorem State.runWait_viol (k : WaitKind) (s : State) : (s.runWait k).viol = s.viol := rfl
@[simp] theorem State.runWait_profiles (k : WaitKind) (s : State) : (s.runWait k).profiles = s.profiles := rfl
@[simp] theorem State.runWait_cmdPort (k : WaitKind) (s : State) : (s.runWait k).cmdPort = s.cmdPort := rfl
@[simp] theorem State.runWait_host (k : WaitKind) (s : State) : (s.runWait k).host = s.host := rfl
@[simp] theorem State.runWait_resetSchedule (k : WaitKind) (s : State) : (s.runWait k).resetSchedule = s.resetSchedule := rfl

/-! ### raiseIllegal -/

@[simp] theorem State.raiseIllegal_lines (w : CmdWord) (s : State) : (s.raiseIllegal w).lines = s.lines := rfl
@[simp] theorem State.raiseIllegal_seq (w : CmdWord) (s : State) : (s.raiseIllegal w).seq = s.seq := rfl
@[simp] theorem State.raiseIllegal_txnOpen (w : CmdWord) (s : State) : (s.raiseIllegal w).txnOpen = s.txnOpen := rfl
@[simp] theorem State.raiseIllegal_errIllegal (w : CmdWord) (s : State) : (s.raiseIllegal w).errIllegal = true := rfl
@[simp] theorem State.raiseIllegal_waitTimer (w : CmdWord) (s : State) : (s.raiseIllegal w).waitTimer = s.waitTimer := rfl
@[simp] theorem State.raiseIllegal_traceRev (w : CmdWord) (s : State) : (s.raiseIllegal w).traceRev = .accept w :: s.traceRev := rfl
@[simp] theorem State.raiseIllegal_fault (w : CmdWord) (s : State) : (s.raiseIllegal w).fault = true := rfl
@[simp] theorem State.raiseIllegal_viol (w : CmdWord) (s : State) : (s.raiseIllegal w).viol = s.viol := rfl
@[simp] theorem State.raiseIllegal_profiles (w : CmdWord) (s : State) : (s.raiseIllegal w).profiles = s.profiles := rfl
@[simp] theorem State.raiseIllegal_cmdPort (w : CmdWord) (s : State) : (s.raiseIllegal w).cmdPort = s.cmdPort := rfl
@[simp] theorem State.raiseIllegal_host (w : CmdWord) (s : State) : (s.raiseIllegal w).host = s.host := rfl
@[simp] theorem State.raiseIllegal_resetSchedule (w : CmdWord) (s : State) : (s.raiseIllegal w).resetSchedule = s.resetSchedule := rfl

/-! ### applyReset -/

@[simp] theorem State.applyReset_lines (s : State) : s.applyReset.lines = Lines.idle := rfl
@[simp] theorem State.applyReset_seq (s : State) : s.applyReset.seq = [] := rfl
@[simp] theorem State.applyReset_txnOpen (s : State) : s.applyReset.txnOpen = false := rfl
@[simp] theorem State.applyReset_errIllegal (s : State) : s.applyReset.errIllegal = false := rfl
@[simp] theorem State.applyReset_waitTimer (s : State) : s.applyReset.waitTimer = none := rfl
@[simp] theorem State.applyReset_traceRev (s : State) : s.applyReset.traceRev = .reset :: s.traceRev := rfl
@[simp] theorem State.applyReset_fault (s : State) : s.applyReset.fault = s.fault := rfl
@[simp] theorem State.applyReset_viol (s : State) : s.applyReset.viol = s.viol := rfl
@[simp] theorem State.applyReset_profiles (s : State) : s.applyReset.profiles = s.profiles := rfl
@[simp] theorem State.applyReset_cmdPort (s : State) : s.applyReset.cmdPort = s.host.portOnReset s.cmdPort := rfl
@[simp] theorem State.applyReset_host (s : State) : s.applyReset.host = s.host.onReset := rfl
@[simp] theorem State.applyReset_resetSchedule (s : State) : s.applyReset.resetSchedule = s.resetSchedule := rfl

/-! ### tick -/

@[simp] theorem State.tick_lines (s : State) : s.tick.lines = s.lines := rfl
@[simp] theorem State.tick_seq (s : State) : s.tick.seq = s.seq := rfl
@[simp] theorem State.tick_txnOpen (s : State) : s.tick.txnOpen = s.txnOpen := rfl
@[simp] theorem State.tick_errIllegal (s : State) : s.tick.errIllegal = s.errIllegal := rfl
@[simp] theorem State.tick_waitTimer (s : State) : s.tick.waitTimer = s.waitTimer := rfl
@[simp] theorem State.tick_traceRev (s : State) : s.tick.traceRev = s.traceRev := rfl
@[simp] theorem State.tick_fault (s : State) : s.tick.fault = s.fault := rfl
@[simp] theorem State.tick_viol (s : State) : s.tick.viol = s.viol := rfl
@[simp] theorem State.tick_profiles (s : State) : s.tick.profiles = s.profiles := rfl
@[simp] theorem State.tick_cmdPort (s : State) : s.tick.cmdPort = s.cmdPort := rfl
@[simp] theorem State.tick_host (s : State) : s.tick.host = s.host := rfl
@[simp] theorem State.tick_resetSchedule (s : State) : s.tick.resetSchedule = s.resetSchedule.tail := rfl

/-! ### tickBy -/

@[simp] theorem State.tickBy_lines (n : Nat) (s : State) : (s.tickBy n).lines = s.lines := rfl
@[simp] theorem State.tickBy_seq (n : Nat) (s : State) : (s.tickBy n).seq = s.seq := rfl
@[simp] theorem State.tickBy_txnOpen (n : Nat) (s : State) : (s.tickBy n).txnOpen = s.txnOpen := rfl
@[simp] theorem State.tickBy_errIllegal (n : Nat) (s : State) : (s.tickBy n).errIllegal = s.errIllegal := rfl
@[simp] theorem State.tickBy_waitTimer (n : Nat) (s : State) : (s.tickBy n).waitTimer = s.waitTimer := rfl
@[simp] theorem State.tickBy_traceRev (n : Nat) (s : State) : (s.tickBy n).traceRev = s.traceRev := rfl
@[simp] theorem State.tickBy_fault (n : Nat) (s : State) : (s.tickBy n).fault = s.fault := rfl
@[simp] theorem State.tickBy_viol (n : Nat) (s : State) : (s.tickBy n).viol = s.viol := rfl
@[simp] theorem State.tickBy_profiles (n : Nat) (s : State) : (s.tickBy n).profiles = s.profiles := rfl
@[simp] theorem State.tickBy_cmdPort (n : Nat) (s : State) : (s.tickBy n).cmdPort = s.cmdPort := rfl
@[simp] theorem State.tickBy_host (n : Nat) (s : State) : (s.tickBy n).host = s.host := rfl
@[simp] theorem State.tickBy_resetSchedule (n : Nat) (s : State) : (s.tickBy n).resetSchedule = s.resetSchedule.drop n := rfl

/-! ### presentOffer -/

@[simp] theorem State.presentOffer_lines (s : State) : s.presentOffer.lines = s.lines := rfl
@[simp] theorem State.presentOffer_seq (s : State) : s.presentOffer.seq = s.seq := rfl
@[simp] theorem State.presentOffer_txnOpen (s : State) : s.presentOffer.txnOpen = s.txnOpen := rfl
@[simp] theorem State.presentOffer_errIllegal (s : State) : s.presentOffer.errIllegal = s.errIllegal := rfl
@[simp] theorem State.presentOffer_waitTimer (s : State) : s.presentOffer.waitTimer = s.waitTimer := rfl
@[simp] theorem State.presentOffer_traceRev (s : State) : s.presentOffer.traceRev = s.traceRev := rfl
@[simp] theorem State.presentOffer_fault (s : State) : s.presentOffer.fault = s.fault := rfl
@[simp] theorem State.presentOffer_viol (s : State) : s.presentOffer.viol = s.viol := rfl
@[simp] theorem State.presentOffer_profiles (s : State) : s.presentOffer.profiles = s.profiles := rfl
@[simp] theorem State.presentOffer_cmdPort (s : State) : s.presentOffer.cmdPort = s.host.offer := rfl
@[simp] theorem State.presentOffer_host (s : State) : s.presentOffer.host = s.host.present := rfl
@[simp] theorem State.presentOffer_resetSchedule (s : State) : s.presentOffer.resetSchedule = s.resetSchedule := rfl

/-! ### takeOffer -/

@[simp] theorem State.takeOffer_lines (s : State) : s.takeOffer.lines = s.lines := rfl
@[simp] theorem State.takeOffer_seq (s : State) : s.takeOffer.seq = s.seq := rfl
@[simp] theorem State.takeOffer_txnOpen (s : State) : s.takeOffer.txnOpen = s.txnOpen := rfl
@[simp] theorem State.takeOffer_errIllegal (s : State) : s.takeOffer.errIllegal = s.errIllegal := rfl
@[simp] theorem State.takeOffer_waitTimer (s : State) : s.takeOffer.waitTimer = s.waitTimer := rfl
@[simp] theorem State.takeOffer_traceRev (s : State) : s.takeOffer.traceRev = s.traceRev := rfl
@[simp] theorem State.takeOffer_fault (s : State) : s.takeOffer.fault = s.fault := rfl
@[simp] theorem State.takeOffer_viol (s : State) : s.takeOffer.viol = s.viol := rfl
@[simp] theorem State.takeOffer_profiles (s : State) : s.takeOffer.profiles = s.profiles := rfl
@[simp] theorem State.takeOffer_cmdPort (s : State) : s.takeOffer.cmdPort = s.host.accepted.offer := rfl
@[simp] theorem State.takeOffer_host (s : State) : s.takeOffer.host = s.host.accepted.present := rfl
@[simp] theorem State.takeOffer_resetSchedule (s : State) : s.takeOffer.resetSchedule = s.resetSchedule := rfl

/-! ### withOffer -/

@[simp] theorem State.withOffer_lines (w : CmdWord) (s : State) : (s.withOffer w).lines = s.lines := rfl
@[simp] theorem State.withOffer_seq (w : CmdWord) (s : State) : (s.withOffer w).seq = [] := rfl
@[simp] theorem State.withOffer_txnOpen (w : CmdWord) (s : State) : (s.withOffer w).txnOpen = s.txnOpen := rfl
@[simp] theorem State.withOffer_errIllegal (w : CmdWord) (s : State) : (s.withOffer w).errIllegal = s.errIllegal := rfl
@[simp] theorem State.withOffer_waitTimer (w : CmdWord) (s : State) : (s.withOffer w).waitTimer = none := rfl
@[simp] theorem State.withOffer_traceRev (w : CmdWord) (s : State) : (s.withOffer w).traceRev = s.traceRev := rfl
@[simp] theorem State.withOffer_fault (w : CmdWord) (s : State) : (s.withOffer w).fault = s.fault := rfl
@[simp] theorem State.withOffer_viol (w : CmdWord) (s : State) : (s.withOffer w).viol = s.viol := rfl
@[simp] theorem State.withOffer_profiles (w : CmdWord) (s : State) : (s.withOffer w).profiles = s.profiles := rfl
@[simp] theorem State.withOffer_cmdPort (w : CmdWord) (s : State) : (s.withOffer w).cmdPort = some w := rfl
@[simp] theorem State.withOffer_host (w : CmdWord) (s : State) : (s.withOffer w).host = s.host := rfl
@[simp] theorem State.withOffer_resetSchedule (w : CmdWord) (s : State) : (s.withOffer w).resetSchedule = releaseReset s.resetSchedule := rfl

/-! ### violateIf -/

@[simp] theorem State.violateIf_viol (c : Bool) (v : Violation) (s : State) :
    (s.violateIf c v).viol = if c then s.viol.add v else s.viol := by cases c <;> rfl
@[simp] theorem State.violateIf_lines (c : Bool) (v : Violation) (s : State) : (s.violateIf c v).lines = s.lines := by
  cases c <;> rfl
@[simp] theorem State.violateIf_seq (c : Bool) (v : Violation) (s : State) : (s.violateIf c v).seq = s.seq := by
  cases c <;> rfl
@[simp] theorem State.violateIf_txnOpen (c : Bool) (v : Violation) (s : State) : (s.violateIf c v).txnOpen = s.txnOpen := by
  cases c <;> rfl
@[simp] theorem State.violateIf_errIllegal (c : Bool) (v : Violation) (s : State) : (s.violateIf c v).errIllegal = s.errIllegal := by
  cases c <;> rfl
@[simp] theorem State.violateIf_waitTimer (c : Bool) (v : Violation) (s : State) : (s.violateIf c v).waitTimer = s.waitTimer := by
  cases c <;> rfl
@[simp] theorem State.violateIf_traceRev (c : Bool) (v : Violation) (s : State) : (s.violateIf c v).traceRev = s.traceRev := by
  cases c <;> rfl
@[simp] theorem State.violateIf_fault (c : Bool) (v : Violation) (s : State) : (s.violateIf c v).fault = s.fault := by
  cases c <;> rfl
@[simp] theorem State.violateIf_profiles (c : Bool) (v : Violation) (s : State) : (s.violateIf c v).profiles = s.profiles := by
  cases c <;> rfl
@[simp] theorem State.violateIf_cmdPort (c : Bool) (v : Violation) (s : State) : (s.violateIf c v).cmdPort = s.cmdPort := by
  cases c <;> rfl
@[simp] theorem State.violateIf_host (c : Bool) (v : Violation) (s : State) : (s.violateIf c v).host = s.host := by
  cases c <;> rfl
@[simp] theorem State.violateIf_resetSchedule (c : Bool) (v : Violation) (s : State) : (s.violateIf c v).resetSchedule = s.resetSchedule := by
  cases c <;> rfl

/-! ### driveLine -/

@[simp] theorem State.driveLine_lines (sig : Signal) (l : Level) (s : State) :
    (s.driveLine sig l).lines = s.lines.set sig l := by
  simp [State.driveLine]
@[simp] theorem State.driveLine_seq (sig : Signal) (l : Level) (s : State) :
    (s.driveLine sig l).seq = s.seq := by
  simp [State.driveLine]
@[simp] theorem State.driveLine_txnOpen (sig : Signal) (l : Level) (s : State) :
    (s.driveLine sig l).txnOpen = s.txnOpen := by
  simp [State.driveLine]
@[simp] theorem State.driveLine_errIllegal (sig : Signal) (l : Level) (s : State) :
    (s.driveLine sig l).errIllegal = s.errIllegal := by
  simp [State.driveLine]
@[simp] theorem State.driveLine_waitTimer (sig : Signal) (l : Level) (s : State) :
    (s.driveLine sig l).waitTimer = s.waitTimer := by
  simp [State.driveLine]
@[simp] theorem State.driveLine_traceRev (sig : Signal) (l : Level) (s : State) :
    (s.driveLine sig l).traceRev = .op (.drive sig l) :: s.traceRev := by
  simp [State.driveLine]
@[simp] theorem State.driveLine_fault (sig : Signal) (l : Level) (s : State) :
    (s.driveLine sig l).fault = s.fault := by
  simp [State.driveLine]
@[simp] theorem State.driveLine_viol (sig : Signal) (l : Level) (s : State) :
    (s.driveLine sig l).viol = if changesDataWhileClockHigh s.lines sig l then s.viol.add .dataWhileClockHigh else s.viol := by
  simp [State.driveLine]
@[simp] theorem State.driveLine_profiles (sig : Signal) (l : Level) (s : State) :
    (s.driveLine sig l).profiles = s.profiles := by
  simp [State.driveLine]
@[simp] theorem State.driveLine_cmdPort (sig : Signal) (l : Level) (s : State) :
    (s.driveLine sig l).cmdPort = s.cmdPort := by
  simp [State.driveLine]
@[simp] theorem State.driveLine_host (sig : Signal) (l : Level) (s : State) :
    (s.driveLine sig l).host = s.host := by
  simp [State.driveLine]
@[simp] theorem State.driveLine_resetSchedule (sig : Signal) (l : Level) (s : State) :
    (s.driveLine sig l).resetSchedule = s.resetSchedule := by
  simp [State.driveLine]

/-! ### Views -/

@[simp] theorem State.trace_emit (e : Event) (s : State) : (s.emit e).trace = s.trace ++ [e] := by simp [State.trace]
@[simp] theorem State.trace_tick (s : State) : s.tick.trace = s.trace := rfl
@[simp] theorem State.trace_presentOffer (s : State) : s.presentOffer.trace = s.trace := rfl
@[simp] theorem State.trace_takeOffer (s : State) : s.takeOffer.trace = s.trace := rfl
@[simp] theorem State.trace_raiseIllegal (w : CmdWord) (s : State) : (s.raiseIllegal w).trace = s.trace ++ [.accept w] := by
  simp [State.trace]
@[simp] theorem State.trace_applyReset (s : State) : s.applyReset.trace = s.trace ++ [.reset] := by simp [State.trace]
@[simp] theorem State.trace_endWait (s : State) : s.endWait.trace = s.trace := rfl
@[simp] theorem State.numProfiles_tick (s : State) : s.tick.numProfiles = s.numProfiles := rfl
@[simp] theorem State.numProfiles_presentOffer (s : State) : s.presentOffer.numProfiles = s.numProfiles := rfl
@[simp] theorem State.numProfiles_takeOffer (s : State) : s.takeOffer.numProfiles = s.numProfiles := rfl

/-! ### Lines and marks -/

@[simp] theorem Lines.get_set_same (L : Lines) (s : Signal) (l : Level) : (L.set s l).get s = l := by cases s <;> rfl
theorem Lines.get_set_other (L : Lines) (s s' : Signal) (l : Level) (h : s' ≠ s) : (L.set s l).get s' = L.get s' := by
  cases s <;> cases s' <;> first | rfl | exact absurd rfl h
@[simp] theorem Violations.has_add_same (V : Violations) (v : Violation) : (V.add v).has v = true := by cases v <;> rfl
theorem Violations.has_add_of_has (V : Violations) (v v' : Violation) (h : V.has v' = true) : (V.add v).has v' = true := by
  cases v <;> cases v' <;> first | rfl | exact h
theorem Violations.has_add_other (V : Violations) (v v' : Violation) (h : v' ≠ v) : (V.add v).has v' = V.has v' := by
  cases v <;> cases v' <;> first | rfl | exact absurd rfl h

end Sys2Proof.Machine
end

