-- ==== Sys2Proof/Laws/Decode.lean ====
section
/-! SUPPORT. The fields of a word written as `{OP, ARG}`, and of an operand field written with its must-be-zero bits in
front: one lemma for each field function, so that no later proof works on single bits of a word. -/

namespace Sys2Proof

theorem getLsbD_word (op : BitVec 8) (arg : Word) (i : Nat) :
    BitVec.getLsbD (w := 40) (op ++ arg) i = if i < 32 then arg.getLsbD i else op.getLsbD (i - 32) :=
  BitVec.getLsbD_append

theorem getLsbD_byteArg (v : Byte) (i : Nat) :
    BitVec.getLsbD (w := 32) (0#24 ++ v) i = if i < 8 then v.getLsbD i else false :=
  (BitVec.getLsbD_append (x := 0#24) (y := v)).trans (by simp)

@[simp] theorem opField_word (op : BitVec 8) (arg : Word) : opField (op ++ arg) = op := by
  refine BitVec.eq_of_getLsbD_eq (fun i hi => ?_)
  rw [opField, BitVec.getLsbD_extractLsb', getLsbD_word, if_neg (by omega), Nat.add_sub_cancel_left]
  simp [hi]

@[simp] theorem argField_word (op : BitVec 8) (arg : Word) : argField (op ++ arg) = arg := by
  refine BitVec.eq_of_getLsbD_eq (fun i hi => ?_)
  rw [argField, BitVec.getLsbD_extractLsb', getLsbD_word, if_pos (by omega)]
  simp [hi]

/-- Every word is its opcode and its operand field. -/
theorem word_eq_fields (w : CmdWord) : opField w ++ argField w = w := by
  refine BitVec.eq_of_getLsbD_eq (fun i hi => ?_)
  rw [getLsbD_word]
  split
  · next h => simp [argField, h]
  · next h =>
    rw [opField, BitVec.getLsbD_extractLsb', Nat.add_sub_cancel' (by omega)]
    simp [show i - 32 < 8 by omega]

@[simp] theorem byteArg_reserved (v : Byte) : BitVec.extractLsb' (n := 32) 8 24 (0#24 ++ v) = 0#24 := by
  refine BitVec.eq_of_getLsbD_eq (fun i hi => ?_)
  rw [BitVec.getLsbD_extractLsb', getLsbD_byteArg, if_neg (by omega)]
  simp

@[simp] theorem byteArg_byte (v : Byte) : BitVec.extractLsb' (n := 32) 0 8 (0#24 ++ v) = v := by
  refine BitVec.eq_of_getLsbD_eq (fun i hi => ?_)
  rw [BitVec.getLsbD_extractLsb', getLsbD_byteArg, if_pos (by omega)]
  simp [hi]

/-- An operand field with its must-be-zero bits zero is its byte. -/
theorem byteArg_eq {arg : Word} (h : arg.extractLsb' 8 24 = 0#24) : 0#24 ++ arg.extractLsb' 0 8 = arg := by
  refine BitVec.eq_of_getLsbD_eq (fun i hi => ?_)
  rw [getLsbD_byteArg]
  split
  · next h8 => simp [h8]
  · next h8 =>
    have hb := congrArg (fun b : BitVec 24 => b.getLsbD (i - 8)) h
    simp only [BitVec.getLsbD_extractLsb', Nat.add_sub_cancel' (show 8 ≤ i by omega), BitVec.getLsbD_zero] at hb
    simpa [show i - 8 < 24 by omega] using hb.symm

/-- An operand field of format S with its must-be-zero bits zero is its level and its line. -/
theorem signalArg_eq {arg : Word} (h : arg.extractLsb' 3 29 = 0#29) :
    0#29 ++ (arg.extractLsb' 2 1 ++ arg.extractLsb' 0 2) = arg := by
  refine BitVec.eq_of_getLsbD_eq (fun i hi => ?_)
  refine (BitVec.getLsbD_append (x := 0#29) (y := (arg.extractLsb' 2 1 ++ arg.extractLsb' 0 2 : BitVec 3))).trans ?_
  split
  · refine (BitVec.getLsbD_append (x := arg.extractLsb' 2 1) (y := arg.extractLsb' 0 2)).trans ?_
    split
    · next h2 => simp [h2]
    · next h2 =>
      rw [BitVec.getLsbD_extractLsb', Nat.add_sub_cancel' (by omega)]
      simp [show i - 2 < 1 by omega]
  · next h3 =>
    have hb := congrArg (fun b : BitVec 29 => b.getLsbD (i - 3)) h
    simp only [BitVec.getLsbD_extractLsb', Nat.add_sub_cancel' (show 3 ≤ i by omega), BitVec.getLsbD_zero] at hb
    simpa [show i - 3 < 29 by omega] using hb.symm

@[simp] theorem code_signalOfCode (c : BitVec 2) : (signalOfCode c).code = c := by revert c; decide
@[simp] theorem code_levelOfCode (c : BitVec 1) : (levelOfCode c).code = c := by revert c; decide
@[simp] theorem signalOfCode_code (s : Signal) : signalOfCode s.code = s := by cases s <;> rfl
@[simp] theorem levelOfCode_code (l : Level) : levelOfCode l.code = l := by cases l <;> rfl

end Sys2Proof
end

