-- ==== Sys2Proof/Laws/Ops.lean ====
section
/-! SUPPORT. One lemma for each shared operation that says everything it does, and the inversion lemma of step: what a step
that answers a next state did. Later proofs cite these instead of unfolding the operations. -/

namespace Sys2Proof.Machine

/-- Everything the accept of a legal command does. -/
theorem State.acceptLegal_eq (i : Instr) (check : State → State) (post : Bool) (ops : List MicroOp) (s : State) :
    s.acceptLegal i check post ops = { check (s.emit (.accept (encode i))) with txnOpen := post, seq := ops } := rfl

/-- Everything a protocol check does: it adds its mark when the condition holds. -/
theorem State.violateIf_eq (c : Bool) (v : Violation) (s : State) :
    s.violateIf c v = { s with viol := if c then s.viol.add v else s.viol } := by cases c <;> rfl

/-- Everything IllegalCommand does. -/
theorem State.raiseIllegal_eq (w : CmdWord) (s : State) :
    s.raiseIllegal w = { s with traceRev := .accept w :: s.traceRev, errIllegal := true, fault := true } := rfl

/-- Everything an idle step's offer does. -/
theorem State.presentOffer_eq (s : State) : s.presentOffer = { s with cmdPort := s.host.offer, host := s.host.present } := rfl

/-- Everything an accept does to the inputs. -/
theorem State.takeOffer_eq (s : State) :
    s.takeOffer = { s with cmdPort := s.host.accepted.offer, host := s.host.accepted.present } := rfl

/-- The host program holds its place while its word is on the port, and moves on when the word is accepted. -/
@[simp] theorem HostAgent.present_mainLoop (h : HostLoop) : (HostAgent.mainLoop h).present = .mainLoop h := rfl
@[simp] theorem HostAgent.accepted_mainLoop (h : HostLoop) : (HostAgent.mainLoop h).accepted = .mainLoop h.advance := rfl
@[simp] theorem HostAgent.offer_mainLoop (h : HostLoop) : (HostAgent.mainLoop h).offer = some (encode h.command) := rfl
@[simp] theorem HostAgent.accepted_stream (offers : List (Option CmdWord)) :
    (HostAgent.stream offers).accepted = .stream offers := rfl

/-- Everything a reset does. -/
theorem State.applyReset_eq (s : State) :
    s.applyReset = { s with
      lines := Lines.idle, seq := [], txnOpen := false, errIllegal := false, waitTimer := none,
      traceRev := .reset :: s.traceRev, cmdPort := s.host.portOnReset s.cmdPort, host := s.host.onReset } := rfl

/-- Everything one micro-op does: its event, its line, and the data-stability mark; a wait leaves the timer not running. -/
theorem State.perform_eq (m : MicroOp) (s : State) :
    s.perform m = { s with
      traceRev := .op m :: s.traceRev
      lines := lineEffect s.lines m
      waitTimer := match m with | .drive _ _ => s.waitTimer | .wait _ => none
      viol := if breaksDataStability s.lines [m] then s.viol.add .dataWhileClockHigh else s.viol } := by
  cases m with
  | drive sig l =>
    simp only [State.perform, State.driveLine, State.violateIf_eq, lineEffect, breaksDataStability, Bool.or_false]
    rfl
  | wait k => rfl

/-- Everything a micro-step does: the head of SEQ is performed and the tail is left. -/
theorem State.microStep_of_cons {s : State} {m : MicroOp} {rest : List MicroOp} (h : s.seq = m :: rest) :
    s.microStep = { s with seq := rest }.perform m := by simp [State.microStep, h]

/-- BUSY says whether SEQ has a head. -/
theorem State.busy_iff (s : State) : s.busy = true ↔ ∃ m rest, s.seq = m :: rest := by
  cases h : s.seq <;> simp [State.busy, h]

theorem State.busy_eq_false_iff (s : State) : s.busy = false ↔ s.seq = [] := by
  cases h : s.seq <;> simp [State.busy, h]

theorem State.waiting_eq_false_iff (s : State) : s.waiting = false ↔ s.waitTimer = none := by
  cases h : s.waitTimer <;> simp [State.waiting, h]

/-- What a step that answers a next state did: a reset, the end of a wait in progress, a micro-step, nothing but the host's
move, the accept of a legal word, or IllegalCommand. -/
theorem step_cases {s t : State} (h : step s = .next t) :
    (s.resetAsserted = true ∧ t = s.tick.applyReset) ∨
    (s.resetAsserted = false ∧ s.waiting = true ∧ t = s.tick.endWait) ∨
    (s.resetAsserted = false ∧ s.waiting = false ∧ s.busy = true ∧ t = s.tick.microStep) ∨
    (s.resetAsserted = false ∧ s.waiting = false ∧ s.busy = false ∧ s.cmdPort = none ∧ t = s.tick.presentOffer) ∨
    (s.resetAsserted = false ∧ s.waiting = false ∧ s.busy = false ∧
      ∃ w i, s.cmdPort = some w ∧ decode s.numProfiles w = some i ∧ exec i s.tick.takeOffer = .next t) ∨
    (s.resetAsserted = false ∧ s.waiting = false ∧ s.busy = false ∧
      ∃ w, s.cmdPort = some w ∧ decode s.numProfiles w = none ∧ t = s.tick.takeOffer.raiseIllegal w) := by
  unfold step at h
  split at h
  · next hr => exact .inl ⟨hr, by cases h; rfl⟩
  next hr =>
  have hr : s.resetAsserted = false := by simpa using hr
  split at h
  · next hw => exact .inr (.inl ⟨hr, hw, by cases h; rfl⟩)
  next hw =>
  have hw : s.waiting = false := by simpa using hw
  split at h
  · next hb => exact .inr (.inr (.inl ⟨hr, hw, hb, by cases h; rfl⟩))
  next hb =>
  have hb : s.busy = false := by simpa using hb
  split at h
  · next hc => exact .inr (.inr (.inr (.inl ⟨hr, hw, hb, hc, by cases h; rfl⟩)))
  next w hc =>
  split at h
  · next i hd => exact .inr (.inr (.inr (.inr (.inl ⟨hr, hw, hb, w, i, hc, hd, h⟩))))
  · next hd => exact .inr (.inr (.inr (.inr (.inr ⟨hr, hw, hb, w, hc, hd, by cases h; rfl⟩))))

/-! ### Runs -/

theorem runFor_zero (s : State) : runFor 0 s = .next s := rfl

theorem runFor_succ_of_next {s t : State} (h : step s = .next t) (n : Nat) : runFor (n + 1) s = runFor n t := by
  rw [runFor, h]

/-- One step of the host's run of any machine. -/
theorem core_run_succ_of_next (M : Host.Core) {s t : M.State} (h : M.step s = .next t) (n : Nat) :
    M.run (n + 1) s = M.run n t := by
  rw [Host.Core.run]
  simp only [h]

theorem core_run_succ_of_fault (M : Host.Core) {s : M.State} {r : M.Fault} (h : M.step s = .fault r) (n : Nat) :
    M.run (n + 1) s = .fault r := by
  rw [Host.Core.run]
  simp only [h]

theorem core_run_succ_of_refused (M : Host.Core) {s : M.State} {r : M.Refusal} (h : M.step s = .refused r) (n : Nat) :
    M.run (n + 1) s = .refused r := by
  rw [Host.Core.run]
  simp only [h]

/-- `runFor` is the host's own run of this machine. -/
theorem runFor_eq_core_run (n : Nat) (s : State) : runFor n s = Host.Core.run Sys2Proof.core n s := by
  induction n generalizing s with
  | zero => rfl
  | succ n ih =>
    unfold runFor
    cases h : step s with
    | next t => exact (ih t).trans (core_run_succ_of_next Sys2Proof.core h n).symm
    | fault r => exact (core_run_succ_of_fault Sys2Proof.core h n).symm
    | refused r => exact (core_run_succ_of_refused Sys2Proof.core h n).symm

/-- What a launch that answers a next state did. -/
theorem launch_cases {b : Byte} {rotation : List Byte} {s t : State} (h : launch b rotation s = .next t) :
    ∃ head tail, rotation = head :: tail ∧ indexInStore s.profiles b = true ∧
      (head :: tail).all (indexInStore s.profiles) = true ∧
      t = { s with
        cmdPort := none
        host := .mainLoop { bringup := b, rotationHead := head, rotationTail := tail, pos := .powerUp } } := by
  cases rotation with
  | nil => exact absurd h (by simp [launch])
  | cons head tail =>
    unfold launch at h
    simp only at h
    split at h
    · next hc =>
      rw [Bool.and_eq_true] at hc
      exact ⟨head, tail, rfl, hc.1, hc.2, by cases h; rfl⟩
    · exact absurd h (by simp)

end Sys2Proof.Machine
end

