-- ==== Sys2Proof/Laws/PerInstr.lean ====
section
/-! SUPPORT. The family EncodeRow: the word of every command matches the row of spec/opcode_table.json that carries its
mnemonic (spec/30_encoding.md R66, R83). It is about the command as syntax: its opcode, its operand bits and its reserved
bits. -/

namespace Sys2Proof.Laws.EncodeRow

/-- The word of the command matches its row of the table. -/
def Statement (i : Instr) : Prop := ∃ r ∈ opcodeRows, r.mnemonic = i.mnemonic ∧ r.matchesWord (encode i) = true

/-- The fixed bits of a word whose operand field is free. -/
theorem mask_opcode (op : BitVec 8) (arg : Word) : (op ++ arg) &&& 0xFF00000000#40 = op ++ 0#32 := by
  rw [show 0xFF00000000#40 = 0xFF#8 ++ 0#32 from rfl, BitVec.and_append, BitVec.and_zero,
    show 0xFF#8 = BitVec.allOnes 8 from rfl, BitVec.and_allOnes]

/-- The fixed bits of a word whose operand is a byte. -/
theorem mask_byte (op v : BitVec 8) : (op ++ (0#24 ++ v)) &&& 0xFFFFFFFF00#40 = op ++ 0#32 := by
  rw [show 0xFFFFFFFF00#40 = 0xFF#8 ++ (0xFFFFFF#24 ++ 0#8) from rfl, BitVec.and_append, BitVec.and_append,
    BitVec.and_zero, show 0xFF#8 = BitVec.allOnes 8 from rfl, BitVec.and_allOnes, BitVec.zero_and]
  rfl

theorem setSignal (line : Signal) (level : Level) : Statement (.setSignal line level) :=
  ⟨_, List.mem_cons_self, rfl, by cases line <;> cases level <;> decide⟩

theorem sendByte (v : Byte) : Statement (.sendByte v) :=
  ⟨⟨"SEND_BYTE", 0x0200000000#40, 0xFFFFFFFF00#40⟩, by decide, rfl, beq_iff_eq.mpr (mask_byte 0x02#8 v)⟩

theorem sendRegister (w : Word) : Statement (.sendRegister w) :=
  ⟨⟨"SEND_REGISTER", 0x0300000000#40, 0xFF00000000#40⟩, by decide, rfl, beq_iff_eq.mpr (mask_opcode 0x03#8 w)⟩

theorem openTxn : Statement .openTxn :=
  ⟨⟨"OPEN_TXN", 0x0400000000#40, 0xFFFFFFFFFF#40⟩, by decide, rfl, by decide⟩

theorem closeTxn : Statement .closeTxn :=
  ⟨⟨"CLOSE_TXN", 0x0500000000#40, 0xFFFFFFFFFF#40⟩, by decide, rfl, by decide⟩

theorem applyProfile (k : Byte) : Statement (.applyProfile k) :=
  ⟨⟨"APPLY_PROFILE", 0x0600000000#40, 0xFFFFFFFF00#40⟩, by decide, rfl, beq_iff_eq.mpr (mask_byte 0x06#8 k)⟩

theorem delayUs (n : Word) : Statement (.delayUs n) :=
  ⟨⟨"DELAY_US", 0x0700000000#40, 0xFF00000000#40⟩, by decide, rfl, beq_iff_eq.mpr (mask_opcode 0x07#8 n)⟩

theorem delayMs (n : Word) : Statement (.delayMs n) :=
  ⟨⟨"DELAY_MS", 0x0800000000#40, 0xFF00000000#40⟩, by decide, rfl, beq_iff_eq.mpr (mask_opcode 0x08#8 n)⟩

end Sys2Proof.Laws.EncodeRow
end

