-- ==== Sys2Proof/Machine/Assembler.lean ====
section
/-! DEFINITION. The assembler text of spec/30_encoding.md R79 and R80: one line of text to the commands it stands for, and
a command word to its ten hex digits. No step reads it. Text is a list of characters, so that the kernel can evaluate it.
Blanks around tokens are ignored, letters are read as they stand, and a line without a mnemonic assembles to nothing
(log entry 7). -/

namespace Sys2Proof.Machine.Asm

/-- A blank: a space or a tab. -/
def isBlank (c : Char) : Bool := c == ' ' || c == '\t'

/-- The text without blanks at either end. -/
def trim (t : List Char) : List Char := ((t.dropWhile isBlank).reverse.dropWhile isBlank).reverse

/-- The text before a comment: a comment begins at `;` (R79). -/
def stripComment (t : List Char) : List Char := t.takeWhile (fun c => c != ';')

/-- Split at commas. -/
def splitCommas : List Char → List (List Char)
  | [] => [[]]
  | c :: rest =>
    if c == ',' then [] :: splitCommas rest
    else
      match splitCommas rest with
      | [] => [[c]]
      | first :: others => (c :: first) :: others

/-- The operands of a line: none, or texts separated by commas. -/
def operands (t : List Char) : List (List Char) :=
  match trim t with
  | [] => []
  | c :: rest => (splitCommas (c :: rest)).map trim

/-- The value of a digit in a base, 10 or 16. -/
def digitValue (base : Nat) (c : Char) : Option Nat :=
  let v :=
    if '0' ≤ c ∧ c ≤ '9' then some (c.toNat - '0'.toNat)
    else if 'a' ≤ c ∧ c ≤ 'f' then some (c.toNat - 'a'.toNat + 10)
    else if 'A' ≤ c ∧ c ≤ 'F' then some (c.toNat - 'A'.toNat + 10)
    else none
  v.bind (fun n => if n < base then some n else none)

/-- The value of a run of digits, after `acc`. -/
def digitsValue (base acc : Nat) : List Char → Option Nat
  | [] => some acc
  | c :: rest => (digitValue base c).bind (fun d => digitsValue base (base * acc + d) rest)

/-- A number: decimal, or hexadecimal after `0x`; at least one digit (R79). -/
def number (t : List Char) : Option Nat :=
  match t with
  | [] => none
  | '0' :: 'x' :: [] => none
  | '0' :: 'x' :: c :: rest => digitsValue 16 0 (c :: rest)
  | c :: rest => digitsValue 10 0 (c :: rest)

/-- A number that fits a field of `width` bits; otherwise the text does not assemble (R79). -/
def field (width : Nat) (t : List Char) : Option (BitVec width) :=
  (number t).bind (fun n => if n < 2 ^ width then some (BitVec.ofNat width n) else none)

/-- The name of a line. -/
def signal (t : List Char) : Option Signal :=
  if t = "DATA".toList then some .data
  else if t = "CLOCK".toList then some .clock
  else if t = "LATCH_ENABLE".toList then some .latchEnable
  else if t = "CHIP_SELECT".toList then some .chipSelect
  else none

/-- The name of a level. -/
def level (t : List Char) : Option Level :=
  if t = "LOW".toList then some .low else if t = "HIGH".toList then some .high else none

/-- The text of each mnemonic of R79, and of each pseudo-instruction of R80. -/
inductive Mnemonic where
  | setSignal
  | sendByte
  | sendRegister
  | openTxn
  | closeTxn
  | applyProfile
  | delayUs
  | delayMs
  | lineIdle
  | pulseLe
  | applyWords
deriving DecidableEq, Repr

/-- The mnemonics with their texts. -/
def mnemonics : List (String × Mnemonic) :=
  [ ("SET_SIGNAL", .setSignal), ("SEND_BYTE", .sendByte), ("SEND_REGISTER", .sendRegister), ("OPEN_TXN", .openTxn),
    ("CLOSE_TXN", .closeTxn), ("APPLY_PROFILE", .applyProfile), ("DELAY_US", .delayUs), ("DELAY_MS", .delayMs),
    ("LINE_IDLE", .lineIdle), ("PULSE_LE", .pulseLe), ("APPLY_WORDS", .applyWords) ]

/-- The mnemonic a text names. -/
def mnemonic (t : List Char) : Option Mnemonic := (mnemonics.find? (fun m => m.1.toList == t)).map Prod.snd

/-- The commands of a mnemonic with its operands (R79, R80); `none` when the operands are not of its form. -/
def statement (m : Mnemonic) (ops : List (List Char)) : Option (List Instr) :=
  match m, ops with
  | .setSignal, [s, l] => (signal s).bind (fun s => (level l).map (fun l => [.setSignal s l]))
  | .sendByte, [v] => (field 8 v).map (fun v => [.sendByte v])
  | .sendRegister, [w] => (field 32 w).map (fun w => [.sendRegister w])
  | .openTxn, [] => some [.openTxn]
  | .closeTxn, [] => some [.closeTxn]
  | .applyProfile, [k] => (field 8 k).map (fun k => [.applyProfile k])
  | .delayUs, [n] => (field 32 n).map (fun n => [.delayUs n])
  | .delayMs, [n] => (field 32 n).map (fun n => [.delayMs n])
  | .lineIdle, [] => some (expandPseudo .lineIdle)
  | .pulseLe, [n] => (field 32 n).map (fun n => expandPseudo (.pulseLe n))
  | .applyWords, [a, b, c, d, e, f] =>
    (field 32 a).bind (fun a => (field 32 b).bind (fun b => (field 32 c).bind (fun c =>
      (field 32 d).bind (fun d => (field 32 e).bind (fun e => (field 32 f).map (fun f =>
        expandPseudo (.applyWords a b c d e f)))))))
  | _, _ => none

/-- One line of text to its commands; `none` when it does not assemble. -/
def assemble (line : List Char) : Option (List Instr) :=
  match trim (stripComment line) with
  | [] => some []
  | c :: rest =>
    (mnemonic ((c :: rest).takeWhile (fun c => !isBlank c))).bind
      (fun m => statement m (operands ((c :: rest).dropWhile (fun c => !isBlank c))))

/-- The words of a line of text. -/
def assembleWords (line : List Char) : Option (List CmdWord) := (assemble line).map (List.map encode)

/-- A hexadecimal digit, in capitals. -/
def hexDigit (n : Nat) : Char := if n < 10 then Char.ofNat ('0'.toNat + n) else Char.ofNat ('A'.toNat + (n - 10))

/-- The last `count` hexadecimal digits of a number, most significant first. -/
def hexDigits : Nat → Nat → List Char
  | 0, _ => []
  | count + 1, n => hexDigits count (n / 16) ++ [hexDigit (n % 16)]

/-- The assembled word as ten hex digits after `0x` (R79). -/
def wordText (w : CmdWord) : List Char := '0' :: 'x' :: hexDigits 10 w.toNat

end Sys2Proof.Machine.Asm
end

