-- ==== Sys2Proof/Tests/Slice0.lean ====
section
/-! SUPPORT. Tests. Expected values are from the spec: spec/95_test_vectors.md (its vector is named in each group), or a word
written out by hand from the formats of spec/30_encoding.md R65. Then, for every obligation with hypotheses, a witness: a
concrete state and operands that meet them all together. -/

namespace Sys2Proof.Tests

open Sys2Proof.Machine

/-! ### WellFormed (spec/30_encoding.md R71; spec/00_scope.md R7) -/

theorem test_wellFormed_refuses_index_at_num_profiles : (Instr.applyProfile 1#8).wellFormed 1 = false := by decide
theorem test_wellFormed_accepts_last_index : (Instr.applyProfile 255#8).wellFormed 256 = true := by decide
theorem test_store_refuses_empty : storeWellFormed [] = false := by decide
theorem test_store_refuses_257 : storeWellFormed (List.replicate 257 Config.test700M) = false := by
  rw [storeWellFormed, List.length_replicate]; decide
theorem test_store_accepts_256 : storeWellFormed (List.replicate 256 Config.test700M) = true := by
  rw [storeWellFormed, List.length_replicate]; decide

/-! ### Decoding: words written bit by bit, OP then ARG (R65, R66; the words of 95 section 2.1) -/

-- OP 0x01, ARG[31:3] = 0, LVL = 1, SIG = 01
theorem test_decode_set_signal :
    decode 1 (0b00000001#8 ++ 0b00000000000000000000000000000101#32) = some (.setSignal .clock .high) := by decide
-- LVL = 0, SIG = 11
theorem test_decode_set_signal_chip_select :
    decode 1 (0b00000001#8 ++ 0b00000000000000000000000000000011#32) = some (.setSignal .chipSelect .low) := by decide
-- LVL = 1, SIG = 10
theorem test_decode_set_signal_latch_enable :
    decode 1 (0b00000001#8 ++ 0b00000000000000000000000000000110#32) = some (.setSignal .latchEnable .high) := by decide
-- OP 0x02, V8 = 1010 0101
theorem test_decode_send_byte :
    decode 1 (0b00000010#8 ++ 0b00000000000000000000000010100101#32) = some (.sendByte 165#8) := by decide
-- OP 0x03, W32 = 0x01400005
theorem test_decode_send_register :
    decode 1 (0b00000011#8 ++ 0b00000001010000000000000000000101#32) = some (.sendRegister 20971525#32) := by decide
theorem test_decode_open_txn : decode 1 (0b00000100#8 ++ 0b00000000000000000000000000000000#32) = some .openTxn := by decide
theorem test_decode_close_txn : decode 1 (0b00000101#8 ++ 0b00000000000000000000000000000000#32) = some .closeTxn := by decide
-- OP 0x06, K = 0000 0001, two profiles
theorem test_decode_apply_profile :
    decode 2 (0b00000110#8 ++ 0b00000000000000000000000000000001#32) = some (.applyProfile 1#8) := by decide
-- OP 0x07, COUNT = 2^32 - 1
theorem test_decode_delay_us :
    decode 1 (0b00000111#8 ++ 0b11111111111111111111111111111111#32) = some (.delayUs 4294967295#32) := by decide
-- OP 0x08, COUNT = 1000
theorem test_decode_delay_ms :
    decode 1 (0b00001000#8 ++ 0b00000000000000000000001111101000#32) = some (.delayMs 1000#32) := by decide

theorem test_illegal_reserved_set_signal : illegalCause 1 0x0100000008#40 = some .reservedBits := by decide
theorem test_illegal_reserved_top_bit : illegalCause 1 0x0180000000#40 = some .reservedBits := by decide
theorem test_illegal_reserved_send_byte : illegalCause 1 0x0200000100#40 = some .reservedBits := by decide
theorem test_illegal_reserved_close : illegalCause 1 0x0500010000#40 = some .reservedBits := by decide
theorem test_illegal_reserved_before_index : illegalCause 256 0x0600000100#40 = some .reservedBits := by decide
theorem test_illegal_index : illegalCause 1 0x0600000001#40 = some .indexOutOfRange := by decide
theorem test_illegal_opcode_before_reserved : illegalCause 1 0x0900000100#40 = some .badOpcode := by decide
theorem test_illegal_all_ones : decode 256 0xFFFFFFFFFF#40 = none ∧ decode 256 0#40 = none := by decide

/-- The opcode table's word of APPLY_PROFILE with a hole in no field: bits above the row's own are 0. -/
theorem test_decodeTableWord : decodeTableWord 40 0x06000000FF = some (.applyProfile 255#8) := by decide

/-! ### Helpers: small states -/

/-- A state with the trace given, after power-on's Reset, that agrees with it, and with a command offered. -/
def fromTrace (events : List Event) (i : Instr) : State :=
  { State.reset with
    traceRev := (.reset :: events).reverse
    lines := traceLines (.reset :: events)
    txnOpen := (.reset :: events).foldl (txnAfterEvent 1) false
    errIllegal := (.reset :: events).foldl (errAfterEvent 1) false
    fault := (.reset :: events).any (Event.illegal 1)
    cmdPort := some (encode i) }

/-- The events of a SET_SIGNAL. -/
def signalEvents (s : Signal) (l : Level) : List Event := [.accept (encode (.setSignal s l)), .op (.drive s l)]

/-- The events of an OPEN_TXN. -/
def openEvents : List Event := .accept (encode .openTxn) :: expandOpenTxn.map Event.op

/-- A busy state: one micro-op of a command left, and the next word waiting on the port. -/
def busyState (m : MicroOp) (L : Lines) : State :=
  { State.reset with lines := L, seq := [m], cmdPort := some (encode .openTxn) }

/-- The host program at its start. -/
def loopAtStart : HostLoop := { bringup := 0#8, rotationHead := 0#8, rotationTail := [0#8], pos := .powerUp }

/-- The state an outcome holds; the reset state for a fault or a refusal, which no step answers here. -/
def nextOr (o : Host.Outcome State Fault Refusal) : State :=
  match o with
  | .next t => t
  | .fault _ => State.reset
  | .refused _ => State.reset

/-- Is an outcome a next state? -/
def isNext (o : Host.Outcome State Fault Refusal) : Bool :=
  match o with
  | .next _ => true
  | .fault _ => false
  | .refused _ => false

theorem eq_nextOr {o : Host.Outcome State Fault Refusal} (h : isNext o = true) : o = .next (nextOr o) := by
  cases o with
  | next t => rfl
  | fault r => exact absurd h (by simp [isNext])
  | refused r => exact absurd h (by simp [isNext])

/-- S0 with a word offered (the state the host's check runs a word in). -/
def offered (w : CmdWord) : State := State.reset.withOffer w

/-! ### One step (95 sections 2.2, 2.6, 2.7, 2.8) -/

-- V-O1: STATUS is 0x83 right after the accept of OPEN_TXN
theorem test_open_txn_status : (nextOr (step (offered 0x0400000000#40))).status = 0x83#8 := by decide
-- V-P7: STATUS is 0x81 right after the accept of APPLY_PROFILE 0
theorem test_apply_profile_status : (nextOr (step (offered 0x0600000000#40))).status = 0x81#8 := by decide
-- V-S1: after D(CLK,H) STATUS is 0xA0
theorem test_set_signal_status :
    (nextOr (step (busyState (.drive .clock .high) Lines.idle))).status = 0xA0#8 := by decide
-- V-S3: D(DATA,H) with CLOCK HIGH marks the breach; V-S4: the same level again does not
theorem test_data_changed_while_clock_high :
    (nextOr (step (busyState (.drive .data .high) (Lines.idle.set .clock .high)))).viol.dataWhileClockHigh = true := by decide
theorem test_data_redriven_while_clock_high :
    (nextOr (step (busyState (.drive .data .low) (Lines.idle.set .clock .high)))).viol.dataWhileClockHigh = false := by decide
-- V-X1: STATUS 0x84 after an illegal word, fault recorded, BUSY 0
theorem test_illegal_status : (nextOr (step (offered 0x0000000000#40))).status = 0x84#8 := by decide
-- V-P2: index out of range
theorem test_apply_profile_out_of_range : (nextOr (step (offered 0x0600000001#40))).fault = true := by decide
-- V-X5: an illegal CLOSE form leaves TXN_OPEN and adds no mark (TXN_OPEN 1, lines all LOW: STATUS 0x02 before, 0x06 after)
theorem test_illegal_close_in_txn :
    (nextOr (step { offered 0x0500000001#40 with
      txnOpen := true, lines := Lines.idle.set .chipSelect .low })).status = 0x06#8 := by decide
-- V-C2, V-B4, V-O2, V-P4: the protocol marks
theorem test_close_idle_mark : (nextOr (step (offered 0x0500000000#40))).viol.closeIdle = true := by decide
theorem test_send_byte_outside_mark : (nextOr (step (offered 0x02000000A5#40))).viol.outsideTxn = true := by decide
theorem test_send_register_outside_mark : (nextOr (step (offered 0x0301400005#40))).viol.outsideTxn = true := by decide
theorem test_open_nested_mark :
    (nextOr (step { offered 0x0400000000#40 with txnOpen := true })).viol.nest = true := by decide
theorem test_apply_nested_mark_and_txn :
    (nextOr (step { offered 0x0600000000#40 with txnOpen := true })).viol.nest = true ∧
    (nextOr (step { offered 0x0600000000#40 with txnOpen := true })).txnOpen = false := by decide
-- V-W1, V-W5: the waits are of their own kinds
theorem test_delay_us_seq : (nextOr (step (offered 0x07000003E8#40))).seq = [.wait (.us 1000#32)] := by decide
theorem test_delay_ms_seq : (nextOr (step (offered 0x0800000001#40))).seq = [.wait (.ms 1#32)] := by decide
-- V-B1: the first bit-cycle of 0xA5 drives DATA HIGH, the second LOW
theorem test_send_byte_first_bits :
    ((nextOr (step (offered 0x02000000A5#40))).seq.take 7) =
      [.drive .data .high, .wait .setup, .drive .clock .high, .wait .pulse, .drive .clock .low, .wait .hold,
       .drive .data .low] := by decide
-- E1: 0x01400005 goes out as bytes 01 40 00 05
theorem test_bytes_on_the_wire : bytesMsbFirst 0x01400005#32 = [0x01#8, 0x40#8, 0x00#8, 0x05#8] := by decide
-- V-C1
theorem test_close_seq :
    (nextOr (step (offered 0x0500000000#40))).seq =
      [.drive .clock .low, .wait .step, .drive .data .low, .wait .settle, .drive .chipSelect .high, .wait .settle] := by
  decide
-- V-Z2: a reset from a busy state gives STATUS 0x80 and keeps the fault mark
theorem test_reset_from_busy :
    (nextOr (step { busyState (.drive .clock .high) (Lines.idle.set .data .high) with
      resetSchedule := [true], fault := true, errIllegal := true })).status = 0x80#8 := by decide
theorem test_withFetchWord_runs_the_word :
    (nextOr (step (State.reset.withFetchWord 40 0x0100000005))).seq = [.drive .clock .high] := by decide

/-- The host program offering the command at a place, on an idle block. -/
def hostAt (pos : HostPos) : State :=
  { State.reset with
    host := .mainLoop { loopAtStart with pos := pos }
    cmdPort := some (encode { loopAtStart with pos := pos }.command) }

-- 95 P3: the host stays in BRINGUP while its profile runs, and enters ROTATE when its dwell has been issued
theorem test_host_in_bringup_after_its_profile_is_accepted :
    (nextOr (step (hostAt .bringupApply))).host = .mainLoop { loopAtStart with pos := .bringupDwell } ∧
    HostPos.bringupDwell.hstate = .bringup := by decide
theorem test_host_enters_rotate_when_its_dwell_is_accepted :
    (nextOr (step (hostAt .bringupDwell))).host = .mainLoop { loopAtStart with pos := .rotateApply 0 } := by decide
-- 95 P3: hpc is 0 while profile ROTATION[0] runs, and wraps after the last dwell
theorem test_hpc_while_a_profile_runs :
    (nextOr (step (hostAt (.rotateApply 0)))).host = .mainLoop { loopAtStart with pos := .rotateDwell 0 } ∧
    (HostPos.rotateDwell 0).hpc = 0 := by decide
theorem test_hpc_wraps :
    (nextOr (step (hostAt (.rotateDwell 1)))).host = .mainLoop { loopAtStart with pos := .rotateApply 0 } := by decide
-- R191: a stream with only steps without an offer left is at its end; one with a word left is not
theorem test_finished_without_words_left :
    ({ State.reset with host := .stream [none] } : State).finished = true ∧
    ({ State.reset with host := .stream [none, some 0x0400000000#40] } : State).finished = false := by decide

/-! ### Observer, waveform, assembler -/

-- V-S1: one sampled bit, 0
theorem test_sampled_set_signal : sampled (.reset :: signalEvents .clock .high) = [false] := by decide
-- V-O1: one latch pulse with 0 bits, not clean
theorem test_open_pulse : (latchPulses (.reset :: openEvents)).map (fun p => (p.samples, p.clean)) = [([], false)] := by decide
-- 30_encoding.md R81 and 95 P1
theorem test_assemble_set_signal :
    Asm.assembleWords "SET_SIGNAL CLOCK, HIGH ; raise".toList = some [0x0100000005#40] := by decide
theorem test_assemble_delay : Asm.assembleWords "DELAY_MS 10000".toList = some [0x0800002710#40] := by decide
theorem test_assemble_hex : Asm.assembleWords "SEND_BYTE 0xA5".toList = some [0x02000000A5#40] := by decide
theorem test_assemble_too_large : Asm.assembleWords "SEND_BYTE 256".toList = none := by decide
theorem test_assemble_pulse :
    Asm.assembleWords "PULSE_LE 10".toList = some [0x0100000006#40, 0x070000000A#40, 0x0100000002#40] := by decide
theorem test_word_text : Asm.wordText 0x02000000A5#40 = "0x02000000A5".toList := by decide

/-! ### Witnesses: states and operands that meet the hypotheses of the obligations -/

theorem fromTrace_agrees (events : List Event) (i : Instr) : (fromTrace events i).TraceAgrees := by
  constructor <;> simp [fromTrace, State.trace, State.numProfiles, State.reset, Config.profiles]

theorem fromTrace_runs (events : List Event) (i : Instr) (h : i.wellFormed 1 = true) : (fromTrace events i).Runs i :=
  ⟨⟨rfl, rfl, rfl, rfl⟩, h, by simp [State.noResetFor, fromTrace, State.reset]⟩

theorem offered_accepts (w : CmdWord) : (offered w).Accepts w := ⟨rfl, rfl, rfl, rfl⟩

theorem witness_DecodeOfEncodeIsIdentity : (Instr.applyProfile 255#8).wellFormed 256 = true := by decide

theorem witness_DecodeTotalAndEncodeInverts :
    decode 256 0x06000000FF#40 = some (.applyProfile 255#8) ∧ legal 256 0x0600000100#40 = false := by decide

theorem witness_IllegalCauseClassifies :
    illegalCause 1 (0x08#8 ++ 0xFFFFFFFF#32) = none ∧ illegalCause 1 (0x09#8 ++ 0#32) = some .badOpcode ∧
    illegalCause 1 (0x01#8 ++ 8#32) = some .reservedBits ∧ illegalCause 1 (0x06#8 ++ 1#32) = some .indexOutOfRange := by
  decide

theorem witness_TableRowsAgreeWithDecoder :
    ∃ r ∈ opcodeRows, r.matchesWord 0x0600000000#40 = true ∧ r.mnemonic = "APPLY_PROFILE" ∧
      (byteField 0x0600000000#40).toNat < 1 ∧ decode 1 0x0600000000#40 = some (.applyProfile 0#8) := by decide

/-- The index check at its boundary: of two stores, the one with exactly one profile more than the index admits the word. -/
theorem witness_TableRowsAgreeWithDecoder_index :
    (∃ i, decode 256 0x06000000FF#40 = some i ∧ i.mnemonic = "APPLY_PROFILE" ∧
      (byteField 0x06000000FF#40).toNat = 255) ∧ decode 255 0x06000000FF#40 = none :=
  ⟨⟨.applyProfile 255#8, by decide⟩, by decide⟩

theorem witness_ApplyProfileAccept : State.reset.profiles[(0#8 : Byte).toNat]? = some Config.test700M := by decide

theorem witness_ApplyProfileOutOfRangeIllegal : State.reset.profiles.length ≤ (1#8 : Byte).toNat := by decide

theorem witness_StepRunsDecodedCommand :
    (offered 0x0400000000#40).Accepts 0x0400000000#40 ∧
    decode (offered 0x0400000000#40).profiles.length 0x0400000000#40 = some .openTxn := ⟨offered_accepts _, by decide⟩

theorem witness_IllegalWordTakesIllegalCommand :
    (offered 0x0600000001#40).Accepts 0x0600000001#40 ∧
    legal (offered 0x0600000001#40).profiles.length 0x0600000001#40 = false := ⟨offered_accepts _, by decide⟩

/-- A reset with a word offered, inside a wait, in the middle of a command. -/
theorem witness_ResetStep :
    ({ busyState (.drive .clock .low) Lines.idle with
      resetSchedule := [true], waitTimer := some .pulse } : State).resetAsserted = true := by decide

theorem witness_MicroStepPerformsHead_drive :
    (busyState (.drive .data .high) (Lines.idle.set .clock .high)).resetAsserted = false ∧
    (busyState (.drive .data .high) (Lines.idle.set .clock .high)).waiting = false ∧
    (busyState (.drive .data .high) (Lines.idle.set .clock .high)).seq = [.drive .data .high] ∧
    (Lines.idle.set .clock .high).clock = .high ∧ (Lines.idle.set .clock .high).data ≠ .high := by decide

theorem witness_MicroStepPerformsHead_wait :
    (busyState (.wait .hold) Lines.idle).resetAsserted = false ∧ (busyState (.wait .hold) Lines.idle).waiting = false ∧
    (busyState (.wait .hold) Lines.idle).seq = [.wait .hold] := by decide

theorem witness_BusyBlockKeepsOfferWaiting :
    (busyState (.wait .hold) Lines.idle).busy = true ∧ (busyState (.wait .hold) Lines.idle).resetAsserted = false ∧
    (busyState (.wait .hold) Lines.idle).cmdPort = some 0x0400000000#40 := by decide

theorem witness_QuiescentStepChangesNothing :
    State.reset.busy = false ∧ State.reset.waiting = false ∧ State.reset.resetAsserted = false ∧
    State.reset.cmdPort = none := by decide

theorem witness_TxnOpenChangesOnlyAtAcceptAndReset_reset :
    ({ State.reset with txnOpen := true, resetSchedule := [true] } : State).resetAsserted = true ∧
    isNext (step { State.reset with txnOpen := true, resetSchedule := [true] }) = true := by decide

theorem witness_TxnOpenChangesOnlyAtAcceptAndReset_noAccept :
    isNext (step (busyState (.wait .hold) Lines.idle)) = true ∧
    (busyState (.wait .hold) Lines.idle).resetAsserted = false ∧ ∀ w, ¬ (busyState (.wait .hold) Lines.idle).Accepts w :=
  ⟨by decide, by decide, fun _ h => absurd h.2.1 (by decide)⟩

theorem witness_TxnOpenChangesOnlyAtAcceptAndReset_illegal :
    isNext (step (offered 0x0500000001#40)) = true ∧ (offered 0x0500000001#40).Accepts 0x0500000001#40 ∧
    decode (offered 0x0500000001#40).profiles.length 0x0500000001#40 = none :=
  ⟨by decide, offered_accepts _, by decide⟩

theorem witness_TxnOpenChangesOnlyAtAcceptAndReset_legal :
    isNext (step (offered 0x0400000000#40)) = true ∧ (offered 0x0400000000#40).Accepts 0x0400000000#40 ∧
    decode (offered 0x0400000000#40).profiles.length 0x0400000000#40 = some .openTxn :=
  ⟨by decide, offered_accepts _, by decide⟩

theorem witness_ErrIllegalStickyUntilReset_reset :
    isNext (step { State.reset with errIllegal := true, resetSchedule := [true] }) = true ∧
    ({ State.reset with errIllegal := true, resetSchedule := [true] } : State).resetAsserted = true := by decide

theorem witness_ErrIllegalStickyUntilReset_sticky :
    isNext (step { offered 0x0100000005#40 with errIllegal := true }) = true ∧
    ({ offered 0x0100000005#40 with errIllegal := true } : State).resetAsserted = false := by decide

theorem witness_ErrIllegalStickyUntilReset_set :
    isNext (step (offered 0#40)) = true ∧ (offered 0#40).resetAsserted = false ∧ (offered 0#40).errIllegal = false ∧
    (offered 0#40).Accepts 0#40 ∧ legal (offered 0#40).profiles.length 0#40 = false :=
  ⟨by decide, rfl, rfl, offered_accepts _, by decide⟩

theorem witness_GhostMarksNeverCleared :
    isNext (step { State.reset with fault := true, viol := Violations.none.add .nest, resetSchedule := [true] }) = true ∧
    (Violations.none.add .nest).has .nest = true := by decide

theorem witness_ProfileStoreNeverWritten : isNext (step (offered 0x0600000000#40)) = true := by decide

theorem witness_OnlyADriveChangesALine :
    step (busyState (.drive .latchEnable .high) Lines.idle)
      = .next (nextOr (step (busyState (.drive .latchEnable .high) Lines.idle))) ∧
    (busyState (.drive .latchEnable .high) Lines.idle).resetAsserted = false ∧
    (nextOr (step (busyState (.drive .latchEnable .high) Lines.idle))).lines.get .latchEnable
      ≠ (busyState (.drive .latchEnable .high) Lines.idle).lines.get .latchEnable :=
  ⟨eq_nextOr (by decide), by decide, by decide⟩

theorem witness_SequenceIndependentOfLines :
    State.reset.profiles = (busyState (.wait .hold) (Lines.idle.set .clock .high)).profiles ∧
    (Instr.applyProfile 0#8).wellFormed State.reset.profiles.length = true ∧
    isNext (exec (.applyProfile 0#8) State.reset) = true ∧
    isNext (exec (.applyProfile 0#8) (busyState (.wait .hold) (Lines.idle.set .clock .high))) = true := by decide

/-- The state right after the accept of APPLY_PROFILE 0: sound, with 1202 micro-ops to run. -/
def afterApplyAccept : State :=
  { State.reset with
    seq := expandApplyProfile Config.test700M
    traceRev := [.accept 0x0600000000#40, .reset]
    resetSchedule := [] }

theorem witness_SoundKeptByStep : afterApplyAccept.Sound ∧ isNext (step afterApplyAccept) = true :=
  ⟨⟨rfl, ⟨.applyProfile 0#8, by decide, List.suffix_refl _⟩, by decide, by decide, fun _ h => absurd h (by simp [afterApplyAccept, State.reset]),
    fun _ h => absurd h (by simp [afterApplyAccept, State.reset])⟩, by decide⟩

theorem witness_SoundKeptByStep_host : (hostAt (.rotateDwell 1)).Sound ∧ isNext (step (hostAt (.rotateDwell 1))) = true :=
  ⟨⟨rfl, ⟨.openTxn, rfl, List.nil_suffix⟩, by decide, by decide,
    fun _ h => by
      cases h
      decide,
    fun _ h => by
      cases h
      exact .inr rfl⟩, by decide⟩

theorem witness_SeqLengthAtMost1202 : afterApplyAccept.Sound := witness_SoundKeptByStep.1

theorem witness_TraceAgreesKeptByStep :
    (fromTrace (openEvents ++ [.accept 0#40]) .closeTxn).TraceAgrees ∧
    isNext (step (fromTrace (openEvents ++ [.accept 0#40]) .closeTxn)) = true ∧
    (fromTrace (openEvents ++ [.accept 0#40]) .closeTxn).txnOpen = true ∧
    (fromTrace (openEvents ++ [.accept 0#40]) .closeTxn).fault = true :=
  ⟨fromTrace_agrees _ _, by decide, by decide, by decide⟩

/-- n = 0 and n = the whole sequence. -/
theorem witness_LegalCommandRunsItsSequence :
    (fromTrace openEvents (.sendByte 0xA5#8)).Runs (.sendByte 0xA5#8) ∧
    0 ≤ (expand (fromTrace openEvents (.sendByte 0xA5#8)).profiles (.sendByte 0xA5#8)).length ∧
    48 ≤ (expand (fromTrace openEvents (.sendByte 0xA5#8)).profiles (.sendByte 0xA5#8)).length :=
  ⟨fromTrace_runs _ _ rfl, by decide, by decide⟩

/-- A reset after 3 of CLOSE_TXN's 6 micro-ops, one after none, and one after all. -/
theorem witness_ResetCutsCommand :
    (∀ n ∈ [0, 3, 6], ({ offered (encode .closeTxn) with
        resetSchedule := List.replicate (1 + n) false ++ true :: [] } : State).Accepts (encode .closeTxn) ∧
      n ≤ (expand State.reset.profiles .closeTxn).length) ∧
    Instr.wellFormed 1 .closeTxn = true := by
  refine ⟨fun n hn => ⟨⟨rfl, rfl, rfl, ?_⟩, ?_⟩, rfl⟩
  · simp [State.resetAsserted, Nat.add_comm 1 n, List.replicate_succ]
  · simp only [List.mem_cons, List.not_mem_nil, or_false] at hn
    obtain rfl | rfl | rfl := hn <;> decide

theorem witness_SetSignalEndState :
    (fromTrace [] (.setSignal .chipSelect .low)).Runs (.setSignal .chipSelect .low) := fromTrace_runs _ _ rfl

theorem witness_DelayEndState :
    (fromTrace [] (.delayUs 0#32)).Runs (.delayUs 0#32) ∧
    (fromTrace [] (.delayMs 0xFFFFFFFF#32)).Runs (.delayMs 0xFFFFFFFF#32) :=
  ⟨fromTrace_runs _ _ rfl, fromTrace_runs _ _ rfl⟩

/-- The start of V-B5, lines LOW HIGH LOW LOW. -/
theorem witness_SendByteEndState :
    (fromTrace (openEvents ++ signalEvents .clock .high) (.sendByte 0x80#8)).Runs (.sendByte 0x80#8) ∧
    (fromTrace (openEvents ++ signalEvents .clock .high) (.sendByte 0x80#8)).lines.clock = .high :=
  ⟨fromTrace_runs _ _ rfl, by decide⟩

theorem witness_SendRegisterEndState :
    (fromTrace openEvents (.sendRegister 0x01400005#32)).Runs (.sendRegister 0x01400005#32) := fromTrace_runs _ _ rfl

/-- The start of V-O3, lines HIGH HIGH LOW HIGH. -/
theorem witness_OpenTxnEndState :
    (fromTrace (signalEvents .clock .high ++ signalEvents .data .high) .openTxn).Runs .openTxn ∧
    (fromTrace (signalEvents .clock .high ++ signalEvents .data .high) .openTxn).lines.data = .high :=
  ⟨fromTrace_runs _ _ rfl, by decide⟩

/-- The start of V-C3: LATCH_ENABLE HIGH. -/
theorem witness_CloseTxnEndState :
    (fromTrace (openEvents ++ signalEvents .latchEnable .high) .closeTxn).Runs .closeTxn := fromTrace_runs _ _ rfl

theorem witness_ApplyProfileEndState : (fromTrace [] (.applyProfile 0#8)).Runs (.applyProfile 0#8) :=
  fromTrace_runs _ _ rfl

/-- Program P2: APPLY_PROFILE 0 twice. -/
def twice : State := { fromTrace [] (.applyProfile 0#8) with host := .stream [some (encode (.applyProfile 0#8))] }

theorem twice_first : isNext (runFor 1203 twice) = true := by decide +kernel

theorem twice_offers_again :
    (nextOr (runFor 1203 twice)).offered = some (encode (.applyProfile 0#8)) ∧
    (nextOr (runFor 1203 twice)).busy = false ∧ (nextOr (runFor 1203 twice)).waiting = false ∧
    (nextOr (runFor 1203 twice)).resetSchedule = [] ∧ (nextOr (runFor 1203 twice)).numProfiles = 1 := by decide +kernel

theorem twice_second : isNext (runFor 1203 (nextOr (runFor 1203 twice))) = true := by decide +kernel

theorem witness_ProfileTwiceSameEvents :
    twice.Runs (.applyProfile 0#8) ∧ runFor 1203 twice = .next (nextOr (runFor 1203 twice)) ∧
    (nextOr (runFor 1203 twice)).Runs (.applyProfile 0#8) ∧
    ∃ u, runFor 1203 (nextOr (runFor 1203 twice)) = .next u := by
  obtain ⟨ho, hb, hw, hr, hn⟩ := twice_offers_again
  refine ⟨⟨⟨rfl, rfl, rfl, rfl⟩, rfl, by simp [State.noResetFor, twice, fromTrace, State.reset]⟩, eq_nextOr twice_first,
    ⟨⟨ho, hb, hw, by simp [State.resetAsserted, hr]⟩, by rw [hn]; rfl, by simp [State.noResetFor, hr]⟩,
    _, eq_nextOr twice_second⟩

theorem witness_SendByteCounts : Lines.idle.clock = .low := rfl

theorem witness_SendRegisterCounts : Lines.idle.clock = .low := rfl

theorem witness_NominalWaitPerCommand : [Config.test700M][(0#8 : Byte).toNat]? = some Config.test700M := rfl

theorem witness_SendByteSampled_clockLow :
    (fromTrace openEvents (.sendByte 0xA5#8)).TraceAgrees ∧
    (fromTrace openEvents (.sendByte 0xA5#8)).Runs (.sendByte 0xA5#8) ∧
    (∃ t, runFor 49 (fromTrace openEvents (.sendByte 0xA5#8)) = .next t) ∧
    (fromTrace openEvents (.sendByte 0xA5#8)).lines.clock = .low :=
  ⟨fromTrace_agrees _ _, fromTrace_runs _ _ rfl, ⟨_, eq_nextOr (by decide +kernel)⟩, by decide⟩

theorem witness_SendByteSampled_clockHigh :
    (fromTrace (openEvents ++ signalEvents .clock .high) (.sendByte 0x80#8)).TraceAgrees ∧
    (fromTrace (openEvents ++ signalEvents .clock .high) (.sendByte 0x80#8)).Runs (.sendByte 0x80#8) ∧
    (∃ t, runFor 49 (fromTrace (openEvents ++ signalEvents .clock .high) (.sendByte 0x80#8)) = .next t) ∧
    (fromTrace (openEvents ++ signalEvents .clock .high) (.sendByte 0x80#8)).lines.clock = .high :=
  ⟨fromTrace_agrees _ _, fromTrace_runs _ _ rfl, ⟨_, eq_nextOr (by decide +kernel)⟩, by decide⟩

/-- V-R1: inside a transaction, with an empty window of bits. -/
theorem witness_SendRegisterCommitsItsWord_open :
    (fromTrace openEvents (.sendRegister 0x01400005#32)).TraceAgrees ∧
    (fromTrace openEvents (.sendRegister 0x01400005#32)).Runs (.sendRegister 0x01400005#32) ∧
    (∃ t, runFor 198 (fromTrace openEvents (.sendRegister 0x01400005#32)) = .next t) ∧
    (fromTrace openEvents (.sendRegister 0x01400005#32)).lines = Lines.idle.set .chipSelect .low ∧
    (observe (fromTrace openEvents (.sendRegister 0x01400005#32)).trace).window = [] :=
  ⟨fromTrace_agrees _ _, fromTrace_runs _ _ rfl, ⟨_, eq_nextOr (by decide +kernel)⟩, by decide, by decide⟩

/-- V-R7: no transaction, CHIP_SELECT HIGH. -/
theorem witness_SendRegisterCommitsItsWord_outside :
    (fromTrace [] (.sendRegister 0x01400005#32)).TraceAgrees ∧
    (fromTrace [] (.sendRegister 0x01400005#32)).Runs (.sendRegister 0x01400005#32) ∧
    (∃ t, runFor 198 (fromTrace [] (.sendRegister 0x01400005#32)) = .next t) ∧
    (fromTrace [] (.sendRegister 0x01400005#32)).lines = Lines.idle :=
  ⟨fromTrace_agrees _ _, fromTrace_runs _ _ rfl, ⟨_, eq_nextOr (by decide +kernel)⟩, by decide⟩

/-- V-R6: inside a transaction, CLOCK HIGH, one bit in the window. -/
theorem witness_SendRegisterCommitsItsWord_clockHigh :
    (fromTrace (openEvents ++ signalEvents .clock .high) (.sendRegister 0x81400005#32)).TraceAgrees ∧
    (fromTrace (openEvents ++ signalEvents .clock .high) (.sendRegister 0x81400005#32)).Runs (.sendRegister 0x81400005#32) ∧
    (∃ t, runFor 198 (fromTrace (openEvents ++ signalEvents .clock .high) (.sendRegister 0x81400005#32)) = .next t) ∧
    (fromTrace (openEvents ++ signalEvents .clock .high) (.sendRegister 0x81400005#32)).lines
      = (Lines.idle.set .chipSelect .low).set .clock .high ∧
    (observe (fromTrace (openEvents ++ signalEvents .clock .high) (.sendRegister 0x81400005#32)).trace).window
      = [{ bit := false, chipSelect := .low }] :=
  ⟨fromTrace_agrees _ _, fromTrace_runs _ _ rfl, ⟨_, eq_nextOr (by decide +kernel)⟩, by decide, by decide⟩

/-- V-R4: inside a transaction, LATCH_ENABLE HIGH. -/
theorem witness_SendRegisterCommitsItsWord_latchHigh :
    (fromTrace (openEvents ++ signalEvents .latchEnable .high) (.sendRegister 0x01400005#32)).TraceAgrees ∧
    (fromTrace (openEvents ++ signalEvents .latchEnable .high) (.sendRegister 0x01400005#32)).Runs
      (.sendRegister 0x01400005#32) ∧
    (∃ t, runFor 198 (fromTrace (openEvents ++ signalEvents .latchEnable .high) (.sendRegister 0x01400005#32)) = .next t) ∧
    (fromTrace (openEvents ++ signalEvents .latchEnable .high) (.sendRegister 0x01400005#32)).lines.latchEnable = .high :=
  ⟨fromTrace_agrees _ _, fromTrace_runs _ _ rfl, ⟨_, eq_nextOr (by decide +kernel)⟩, by decide⟩

theorem witness_OpenTxnCommitsNothing :
    (fromTrace [] .openTxn).TraceAgrees ∧ (fromTrace [] .openTxn).Runs .openTxn ∧
    (∃ t, runFor 13 (fromTrace [] .openTxn) = .next t) ∧ (fromTrace [] .openTxn).lines.latchEnable = .low :=
  ⟨fromTrace_agrees _ _, fromTrace_runs _ _ rfl, ⟨_, eq_nextOr (by decide +kernel)⟩, by decide⟩

theorem witness_ApplyProfileCommitsSixWords_latchLow :
    (fromTrace [] (.applyProfile 0#8)).TraceAgrees ∧ (fromTrace [] (.applyProfile 0#8)).Runs (.applyProfile 0#8) ∧
    (fromTrace [] (.applyProfile 0#8)).profiles[(0#8 : Byte).toNat]? = some Config.test700M ∧
    (∃ t, runFor 1203 (fromTrace [] (.applyProfile 0#8)) = .next t) ∧
    (fromTrace [] (.applyProfile 0#8)).lines.latchEnable = .low :=
  ⟨fromTrace_agrees _ _, fromTrace_runs _ _ rfl, rfl, ⟨_, eq_nextOr (by decide +kernel)⟩, by decide⟩

/-- V-P6. -/
theorem witness_ApplyProfileCommitsSixWords_latchHigh :
    (fromTrace (signalEvents .latchEnable .high) (.applyProfile 0#8)).TraceAgrees ∧
    (fromTrace (signalEvents .latchEnable .high) (.applyProfile 0#8)).Runs (.applyProfile 0#8) ∧
    (fromTrace (signalEvents .latchEnable .high) (.applyProfile 0#8)).profiles[(0#8 : Byte).toNat]?
      = some Config.test700M ∧
    (∃ t, runFor 1203 (fromTrace (signalEvents .latchEnable .high) (.applyProfile 0#8)) = .next t) ∧
    (fromTrace (signalEvents .latchEnable .high) (.applyProfile 0#8)).lines.latchEnable = .high ∧
    (observe (fromTrace (signalEvents .latchEnable .high) (.applyProfile 0#8)).trace).window = [] :=
  ⟨fromTrace_agrees _ _, fromTrace_runs _ _ rfl, rfl, ⟨_, eq_nextOr (by decide +kernel)⟩, by decide, by decide⟩

theorem witness_HostBringupSequence : loopAtStart.pos = .powerUp := rfl

theorem witness_HostRotationProperty : loopAtStart.pos = .powerUp ∧ loopAtStart.rotation.length = 2 := by decide

theorem witness_HostIssuesWhenAccepted_accept :
    (hostAt (.rotateDwell 1)).host = .mainLoop { loopAtStart with pos := .rotateDwell 1 } ∧
    (hostAt (.rotateDwell 1)).resetAsserted = false ∧ isNext (step (hostAt (.rotateDwell 1))) = true ∧
    (hostAt (.rotateDwell 1)).Accepts (encode dwellDelay) := ⟨rfl, rfl, by decide, rfl, rfl, rfl, rfl⟩

theorem witness_HostIssuesWhenAccepted_bringup :
    (hostAt .bringupDwell).host = .mainLoop { loopAtStart with pos := .bringupDwell } ∧
    (hostAt .bringupDwell).resetAsserted = false ∧ isNext (step (hostAt .bringupDwell)) = true ∧
    (hostAt .bringupDwell).Accepts (encode dwellDelay) := ⟨rfl, rfl, by decide, rfl, rfl, rfl, rfl⟩

theorem witness_HostIssuesWhenAccepted_busy :
    ({ hostAt .bringupDwell with seq := [.wait .postSettle] } : State).resetAsserted = false ∧
    isNext (step { hostAt .bringupDwell with seq := [.wait .postSettle] }) = true ∧
    (∀ w, ¬ ({ hostAt .bringupDwell with seq := [.wait .postSettle] } : State).Accepts w) ∧
    ({ hostAt .bringupDwell with seq := [.wait .postSettle] } : State).cmdPort = some (encode dwellDelay) :=
  ⟨rfl, by decide, fun _ h => absurd h.2.1 (by decide), rfl⟩

theorem witness_LaunchRefusesEmptyRotation :
    (0#8 : Byte).toNat < State.reset.profiles.length ∧
    ∀ b ∈ (0#8 : Byte) :: [0#8], b.toNat < State.reset.profiles.length := by decide

theorem witness_ResetRestartsHostProgram :
    ({ State.reset with
      host := .mainLoop { loopAtStart with pos := .rotateDwell 1 }, resetSchedule := [true] } : State).host
        = .mainLoop { loopAtStart with pos := .rotateDwell 1 } ∧
    ({ State.reset with
      host := .mainLoop { loopAtStart with pos := .rotateDwell 1 }, resetSchedule := [true] } : State).resetAsserted
        = true := ⟨rfl, rfl⟩

/-- The rising edge of a bit-cycle, its pulse, and the falling edge, 4 microseconds later, under the nominal `admissible`. -/
theorem witness_TimedReadingLowerBound :
    (∀ k, ∀ d ∈ nominalAdmit k, (nominalMicros k : Duration) ≤ d) ∧
    Timed nominalAdmit ((.op (.drive .clock .high), 0) :: [(.op (.wait .pulse), 0)] ++ [(.op (.drive .clock .low), 4)]) ∧
    ∀ e ∈ ((.op (.drive .clock .high), 0) :: [(.op (.wait .pulse), 0)] ++ [(.op (.drive .clock .low), 4)] :
      List (Event × Duration)), e.1 ≠ .reset := by
  refine ⟨fun k d h => le_of_eq (Eq.symm h), ?_, ?_⟩
  · refine ⟨rfl, ⟨4, ?_, ?_⟩, trivial⟩
    · show (4 : Duration) = ((4 : Nat) : Duration)
      norm_num
    · simp
  · simp

end Sys2Proof.Tests
end

section
/-! The accept of a well-formed command, said once for all eight (spec/10_state.md R26, R36, R42), and the sequence it
loads (spec/00_scope.md R12). -/

namespace Sys2Proof.Machine

/-! ### The protocol checks (R36) -/

theorem checkNest_eq (s : State) :
    checkNest s = { s with viol := addMark s.viol (if s.txnOpen then some .nest else none) } := by
  cases h : s.txnOpen <;> simp [checkNest, State.violateIf_eq, addMark, h]

theorem checkClose_eq (s : State) :
    checkClose s = { s with viol := addMark s.viol (if s.txnOpen then none else some .closeIdle) } := by
  cases h : s.txnOpen <;> simp [checkClose, State.violateIf_eq, addMark, h]

theorem checkInside_eq (s : State) :
    checkInside s = { s with viol := addMark s.viol (if s.txnOpen then none else some .outsideTxn) } := by
  cases h : s.txnOpen <;> simp [checkInside, State.violateIf_eq, addMark, h]

/-! ### The profile a well-formed command names (R71) -/

theorem storeProfile_of_wellFormed {store : List Profile} {k : Byte}
    (h : (Instr.applyProfile k).wellFormed store.length = true) : ∃ p, storeProfile store k = some p := by
  have hk : k.toNat < store.length := by simpa [Instr.wellFormed] using h
  exact ⟨store[k.toNat], List.getElem?_eq_getElem hk⟩

/-! ### The accept (R42) -/

/-- Everything the accept of a well-formed command does: its event, its mark by TXN_OPEN as it was, TXN_OPEN's new value,
and SEQ loaded with the command's own sequence. -/
theorem exec_of_wellFormed {i : Instr} {s : State} (hi : i.wellFormed s.profiles.length = true) :
    exec i s = .next { s with
      traceRev := .accept (encode i) :: s.traceRev
      viol := addMark s.viol (protocolMark s.txnOpen i)
      txnOpen := postTxn s.txnOpen i
      seq := expand s.profiles i } := by
  cases i with
  | setSignal line level => rfl
  | delayUs n => rfl
  | delayMs n => rfl
  | sendByte v => simp only [exec, execSendByte, State.acceptLegal_eq, checkInside_eq]; rfl
  | sendRegister w => simp only [exec, execSendRegister, State.acceptLegal_eq, checkInside_eq]; rfl
  | openTxn => simp only [exec, execOpenTxn, State.acceptLegal_eq, checkNest_eq]; rfl
  | closeTxn => simp only [exec, execCloseTxn, State.acceptLegal_eq, checkClose_eq]; rfl
  | applyProfile k =>
    obtain ⟨p, hp⟩ := storeProfile_of_wellFormed hi
    simp only [exec, execApplyProfile, hp, State.acceptLegal_eq, checkNest_eq, expand, Option.elim]
    rfl

/-- The accept of a well-formed command loads `expand`, a function of the command and the store alone (R12). -/
theorem exec_seq_eq_expand {i : Instr} {s t : State} (hi : i.wellFormed s.profiles.length = true)
    (h : exec i s = .next t) : t.seq = expand s.profiles i := by
  rw [exec_of_wellFormed hi] at h
  cases h
  rfl

/-- Settles O29: both accepts load the sequence `expand` gives, and that reads only the store the two states share. -/
theorem sequenceIndependentOfLines : Obligations.SequenceIndependentOfLines := by
  intro i s t s' t' hstore hi ht ht'
  have hi' : i.wellFormed s'.profiles.length = true := hstore ▸ hi
  calc t.seq = expand s.profiles i := exec_seq_eq_expand hi ht
    _ = expand s'.profiles i := by rw [hstore]
    _ = t'.seq := (exec_seq_eq_expand hi' ht').symm

end Sys2Proof.Machine
end

section
/-! The timed reading of a trace in which every wait takes one admissible time and nothing else takes any
(spec/00_scope.md R8; spec/70_reset_and_hazards.md R186). -/

namespace Sys2Proof.Machine

/-- An event whose wait takes an admissible time is timed with whatever follows it: an op stands exactly at the wait's
end, an Accept may stand there, and a Reset anywhere from the wait's begin on. -/
theorem neighboursTimed_leastTime {admissible : WaitKind → Set Duration} {atLeast : WaitKind → Duration}
    (hmem : ∀ k, atLeast k ∈ admissible k) (e e' : Event) (t : Duration) :
    neighboursTimed admissible e e' t (t + e.leastTime atLeast) := by
  have later : t ≤ t + e.leastTime atLeast := le_self_add
  cases e' with
  | reset => cases e <;> exact later
  | accept w =>
    rcases e with (_ | k) | _ | _
    case op.wait => exact ⟨atLeast k, hmem k, le_rfl⟩
    all_goals exact later
  | op m =>
    rcases e with (_ | k) | _ | _
    case op.drive => exact add_zero t
    case op.wait => exact ⟨atLeast k, hmem k, rfl⟩
    case accept => exact add_zero t
    case reset => exact later

/-- The nominal value of a wait is the one time the simulator's default admits. -/
theorem nominalMicros_mem_nominalAdmit (k : WaitKind) : (nominalMicros k : Duration) ∈ nominalAdmit k := rfl

/-- Settles O59, by induction on the trace: neighbours stand one least time apart, and nominal times are admitted. -/
theorem nominalReadingIsTimed : Obligations.NominalReadingIsTimed := by
  intro events
  induction events with
  | nil => exact fun _ => trivial
  | cons e rest ih =>
    intro t
    cases rest with
    | nil => trivial
    | cons e' later => exact ⟨neighboursTimed_leastTime nominalMicros_mem_nominalAdmit e e' t, ih _⟩

end Sys2Proof.Machine
end

section
/-! The decoder reads a well-formed command back from its word, answers only well-formed commands, and answers one exactly
for the words `legal` admits (spec/30_encoding.md R66, R71, R75, R82). -/

namespace Sys2Proof

theorem decode_encode {n : Nat} {i : Instr} (hi : i.wellFormed n = true) : decode n (encode i) = some i := by
  cases i with
  | setSignal line level => cases line <;> cases level <;> rfl
  | sendByte v => simp [decode, encode, Instr.opcode, Instr.arg, reservedB, byteField]
  | sendRegister w => simp [decode, encode, Instr.opcode, Instr.arg]
  | openTxn => rfl
  | closeTxn => rfl
  | applyProfile k =>
    have hk : k.toNat < n := by simpa [Instr.wellFormed] using hi
    simp [decode, encode, Instr.opcode, Instr.arg, reservedB, byteField, hk]
  | delayUs c => simp [decode, encode, Instr.opcode, Instr.arg]
  | delayMs c => simp [decode, encode, Instr.opcode, Instr.arg]

/-- Only APPLY_PROFILE can be ill-formed, and its row of the decoder checks the index. -/
theorem wellFormed_of_decode {n : Nat} {w : CmdWord} {i : Instr} (h : decode n w = some i) : i.wellFormed n = true := by
  cases i with
  | applyProfile k =>
    have hk : k.toNat < n := by
      unfold decode at h
      split at h <;> simp at h
      obtain ⟨⟨_, hlt⟩, rfl⟩ := h
      exact hlt
    exact decide_eq_true hk
  | _ => rfl

/-- Row by row of the opcode, the clause of `legal` is the decoder's condition. -/
theorem legal_eq_isSome_decode (n : Nat) (w : CmdWord) : legal n w = (decode n w).isSome := by
  unfold legal decode
  split <;> simp_all [apply_ite Option.isSome, beq_eq_decide]

end Sys2Proof
end

section
/-! What each step does to each field of the state (spec/10_state.md R38): `step_iff` says which of six things a step is,
each with the condition it is taken under, and every statement about one step is a case split on it. -/

namespace Sys2Proof.Machine

/-! ### microOp: the step that takes the head of SEQ (R43) -/

/-- The state after a step of a busy block whose SEQ is m followed by rest. -/
def State.microOp (m : MicroOp) (rest : List MicroOp) (s : State) : State := { s.tick with seq := rest }.perform m

theorem State.microStep_tick_eq {s : State} {m : MicroOp} {rest : List MicroOp} (h : s.seq = m :: rest) :
    s.tick.microStep = s.microOp m rest := State.microStep_of_cons h

section
variable (m : MicroOp) (rest : List MicroOp) (s : State)

theorem State.microOp_eq : s.microOp m rest = { s with
    lines := lineEffect s.lines m
    seq := rest
    waitTimer := match m with | .drive _ _ => s.waitTimer | .wait _ => none
    traceRev := .op m :: s.traceRev
    viol := if breaksDataStability s.lines [m] then s.viol.add .dataWhileClockHigh else s.viol
    resetSchedule := s.resetSchedule.tail } := State.perform_eq m _

@[simp] theorem State.microOp_lines : (s.microOp m rest).lines = lineEffect s.lines m := by rw [State.microOp_eq]
@[simp] theorem State.microOp_seq : (s.microOp m rest).seq = rest := by rw [State.microOp_eq]
@[simp] theorem State.microOp_txnOpen : (s.microOp m rest).txnOpen = s.txnOpen := by rw [State.microOp_eq]
@[simp] theorem State.microOp_errIllegal : (s.microOp m rest).errIllegal = s.errIllegal := by rw [State.microOp_eq]
@[simp] theorem State.microOp_trace : (s.microOp m rest).trace = s.trace ++ [.op m] := by
  simp [State.microOp_eq, State.trace]
@[simp] theorem State.microOp_fault : (s.microOp m rest).fault = s.fault := by rw [State.microOp_eq]
@[simp] theorem State.microOp_viol : (s.microOp m rest).viol =
    if breaksDataStability s.lines [m] then s.viol.add .dataWhileClockHigh else s.viol := by rw [State.microOp_eq]
theorem State.microOp_waitTimer {s : State} (h : s.waitTimer = none) : (s.microOp m rest).waitTimer = none := by
  cases m <;> simp [State.microOp_eq, h]
@[simp] theorem State.microOp_profiles : (s.microOp m rest).profiles = s.profiles := by rw [State.microOp_eq]
@[simp] theorem State.microOp_cmdPort : (s.microOp m rest).cmdPort = s.cmdPort := by rw [State.microOp_eq]
@[simp] theorem State.microOp_host : (s.microOp m rest).host = s.host := by rw [State.microOp_eq]
@[simp] theorem State.microOp_resetSchedule : (s.microOp m rest).resetSchedule = s.resetSchedule.tail := by
  rw [State.microOp_eq]

end

/-! ### acceptInstr: the accept of a well-formed command (R42) -/

/-- The state `exec_of_wellFormed` gives: the command's event, mark and post value, and its sequence in SEQ. -/
def State.acceptInstr (i : Instr) (s : State) : State :=
  { s with
    traceRev := .accept (encode i) :: s.traceRev
    viol := addMark s.viol (protocolMark s.txnOpen i)
    txnOpen := postTxn s.txnOpen i
    seq := expand s.profiles i }

theorem exec_eq_acceptInstr {i : Instr} {s : State} (hi : i.wellFormed s.profiles.length = true) :
    exec i s = .next (s.acceptInstr i) := exec_of_wellFormed hi

section
variable (i : Instr) (s : State)

@[simp] theorem State.acceptInstr_lines : (s.acceptInstr i).lines = s.lines := rfl
@[simp] theorem State.acceptInstr_seq : (s.acceptInstr i).seq = expand s.profiles i := rfl
@[simp] theorem State.acceptInstr_txnOpen : (s.acceptInstr i).txnOpen = postTxn s.txnOpen i := rfl
@[simp] theorem State.acceptInstr_errIllegal : (s.acceptInstr i).errIllegal = s.errIllegal := rfl
@[simp] theorem State.acceptInstr_waitTimer : (s.acceptInstr i).waitTimer = s.waitTimer := rfl
@[simp] theorem State.acceptInstr_trace : (s.acceptInstr i).trace = s.trace ++ [.accept (encode i)] := by
  simp [State.trace, State.acceptInstr]
@[simp] theorem State.acceptInstr_fault : (s.acceptInstr i).fault = s.fault := rfl
@[simp] theorem State.acceptInstr_viol :
    (s.acceptInstr i).viol = addMark s.viol (protocolMark s.txnOpen i) := rfl
@[simp] theorem State.acceptInstr_profiles : (s.acceptInstr i).profiles = s.profiles := rfl
@[simp] theorem State.acceptInstr_cmdPort : (s.acceptInstr i).cmdPort = s.cmdPort := rfl
@[simp] theorem State.acceptInstr_host : (s.acceptInstr i).host = s.host := rfl
@[simp] theorem State.acceptInstr_resetSchedule : (s.acceptInstr i).resetSchedule = s.resetSchedule := rfl

end

/-! ### Accepts -/

theorem State.Accepts.unique {s : State} {w w' : CmdWord} (h : s.Accepts w) (h' : s.Accepts w') : w = w' :=
  Option.some.inj (h.1.symm.trans h'.1)

theorem State.Accepts.waitTimer_eq_none {s : State} {w : CmdWord} (h : s.Accepts w) : s.waitTimer = none := by
  obtain ⟨_, _, hw, _⟩ := h
  exact s.waiting_eq_false_iff.mp hw

theorem State.Accepts.of_seq_nil {s : State} {w : CmdWord} (hr : s.resetAsserted = false) (hw : s.waiting = false)
    (hseq : s.seq = []) (hport : s.cmdPort = some w) : s.Accepts w :=
  ⟨hport, s.busy_eq_false_iff.mpr hseq, hw, hr⟩

/-! ### The step -/

theorem step_of_busy {s : State} {m : MicroOp} {rest : List MicroOp} (hr : s.resetAsserted = false)
    (hw : s.waiting = false) (hseq : s.seq = m :: rest) : step s = .next (s.microOp m rest) := by
  have hb : s.busy = true := s.busy_iff.mpr ⟨m, rest, hseq⟩
  simp [step, hr, hw, hb, State.microStep_tick_eq hseq]

theorem step_of_idle {s : State} (hr : s.resetAsserted = false) (hw : s.waiting = false) (hseq : s.seq = [])
    (hport : s.cmdPort = none) : step s = .next s.tick.presentOffer := by
  have hb : s.busy = false := s.busy_eq_false_iff.mpr hseq
  simp [step, hr, hw, hb, State.offered, hport]

theorem step_of_decode {s : State} {w : CmdWord} {i : Instr} (ha : s.Accepts w) (hd : decode s.numProfiles w = some i) :
    step s = exec i s.tick.takeOffer := by
  obtain ⟨hport, hb, hw, hr⟩ := ha
  simp [step, hr, hw, hb, hport, State.decodeWord, hd]

theorem step_of_legal {s : State} {w : CmdWord} {i : Instr} (ha : s.Accepts w) (hd : decode s.numProfiles w = some i) :
    step s = .next (s.tick.takeOffer.acceptInstr i) :=
  (step_of_decode ha hd).trans (exec_eq_acceptInstr (wellFormed_of_decode hd))

theorem step_of_illegal {s : State} {w : CmdWord} (ha : s.Accepts w) (hd : decode s.numProfiles w = none) :
    step s = .next (s.tick.takeOffer.raiseIllegal w) := by
  obtain ⟨hport, hb, hw, hr⟩ := ha
  simp [step, hr, hw, hb, hport, State.decodeWord, hd]

/-- The six things a step can be, each with its condition and the state it leaves (R38, R160): the alternatives of
`step_cases` by name, with the accept of a legal word in the form `acceptInstr`. -/
inductive StepsTo (s : State) : State → Prop where
  | reset (hr : s.resetAsserted = true) : StepsTo s s.tick.applyReset
  | endWait (hr : s.resetAsserted = false) (hw : s.waiting = true) : StepsTo s s.tick.endWait
  | microOp {m : MicroOp} {rest : List MicroOp} (hr : s.resetAsserted = false) (hw : s.waiting = false)
      (hseq : s.seq = m :: rest) : StepsTo s (s.microOp m rest)
  | idle (hr : s.resetAsserted = false) (hw : s.waiting = false) (hseq : s.seq = []) (hport : s.cmdPort = none) :
      StepsTo s s.tick.presentOffer
  | legal {w : CmdWord} {i : Instr} (ha : s.Accepts w) (hd : decode s.numProfiles w = some i) :
      StepsTo s (s.tick.takeOffer.acceptInstr i)
  | illegal {w : CmdWord} (ha : s.Accepts w) (hd : decode s.numProfiles w = none) :
      StepsTo s (s.tick.takeOffer.raiseIllegal w)

theorem StepsTo.step_eq {s t : State} (h : StepsTo s t) : step s = .next t := by
  cases h with
  | reset hr => simp [step, hr]
  | endWait hr hw => simp [step, hr, hw]
  | microOp hr hw hseq => exact step_of_busy hr hw hseq
  | idle hr hw hseq hport => exact step_of_idle hr hw hseq hport
  | legal ha hd => exact step_of_legal ha hd
  | illegal ha hd => exact step_of_illegal ha hd

/-- The six conditions leave no state out. -/
theorem exists_stepsTo (s : State) : ∃ t, StepsTo s t := by
  cases hr : s.resetAsserted with
  | true => exact ⟨_, .reset hr⟩
  | false =>
  cases hw : s.waiting with
  | true => exact ⟨_, .endWait hr hw⟩
  | false =>
  cases hseq : s.seq with
  | cons m rest => exact ⟨_, .microOp hr hw hseq⟩
  | nil =>
  cases hport : s.cmdPort with
  | none => exact ⟨_, .idle hr hw hseq hport⟩
  | some w =>
  have ha : s.Accepts w := .of_seq_nil hr hw hseq hport
  cases hd : decode s.numProfiles w with
  | none => exact ⟨_, .illegal ha hd⟩
  | some i => exact ⟨_, .legal ha hd⟩

theorem step_iff {s t : State} : step s = .next t ↔ StepsTo s t := by
  refine ⟨fun h => ?_, StepsTo.step_eq⟩
  obtain ⟨u, hu⟩ := exists_stepsTo s
  have : u = t := by simpa [hu.step_eq] using h
  exact this ▸ hu

theorem StepsTo.eq_of_step {s t u : State} (hu : StepsTo s u) (h : step s = .next t) : t = u := by
  simpa [hu.step_eq] using h.symm

end Sys2Proof.Machine
end

section
/-! The two invariants every step keeps (spec/10_state.md R23, R41): the block is sound, and it agrees with its own trace. -/

namespace Sys2Proof.Machine

/-! ### The host program's place (R142 to R149) -/

@[simp] theorem HostLoop.rotation_advance (h : HostLoop) : h.advance.rotation = h.rotation := rfl

/-- `hpc` stays below `length(ROTATION)`: it is kept, starts at 0, or wraps (R142, R143). -/
theorem HostLoop.hpc_advance_lt {h : HostLoop} (hlt : h.pos.hpc < h.rotation.length) :
    h.advance.pos.hpc < h.rotation.length := by
  have hpos : 0 < h.rotation.length := Nat.zero_lt_of_lt hlt
  cases hp : h.pos with
  | rotateApply n => simpa [HostLoop.advance, hp, HostPos.hpc] using hlt
  | rotateDwell n => simpa [HostLoop.advance, hp, HostPos.hpc] using Nat.mod_lt (n + 1) hpos
  | powerUp | bringupApply | bringupDwell => simpa [HostLoop.advance, hp, HostPos.hpc] using hpos

/-- What `State.Sound` says of the host and the port: the host program's index is in range, and its word on the port is the
command at its place. -/
def HostAgent.InPlace (port : Option CmdWord) (host : HostAgent) : Prop :=
  ∀ h, host = .mainLoop h → h.pos.hpc < h.rotation.length ∧ (port = none ∨ port = some (encode h.command))

theorem HostAgent.InPlace.onReset (port : Option CmdWord) (host : HostAgent) :
    host.onReset.InPlace (host.portOnReset port) := by
  cases host with
  | stream offers => exact fun _ h => by cases h
  | mainLoop h => exact fun _ hh => by cases hh; exact ⟨Nat.succ_pos _, .inl rfl⟩

theorem HostAgent.InPlace.present {port : Option CmdWord} {host : HostAgent} (hp : host.InPlace port) :
    host.present.InPlace host.offer := by
  cases host with
  | stream offers => cases offers <;> exact fun _ h => by cases h
  | mainLoop h => exact fun _ hh => by cases hh; exact ⟨(hp h rfl).1, .inr rfl⟩

theorem HostAgent.InPlace.accepted {port : Option CmdWord} {host : HostAgent} (hp : host.InPlace port) :
    host.accepted.InPlace none := by
  cases host with
  | stream offers => exact fun _ h => by cases h
  | mainLoop h => exact fun _ hh => by cases hh; exact ⟨HostLoop.hpc_advance_lt (hp h rfl).1, .inl rfl⟩

/-! ### Sound -/

theorem State.Sound.inPlace {s : State} (hs : s.Sound) : s.host.InPlace s.cmdPort :=
  fun h hh => ⟨hs.hostIndex h hh, hs.hostOffer h hh⟩

/-- The empty SEQ is the rest of a legal command's sequence. -/
theorem nil_rest_of_command (store : List Profile) :
    ∃ i : Instr, i.wellFormed store.length = true ∧ [] <:+ expand store i := ⟨.openTxn, rfl, List.nil_suffix⟩

/-- A state with a sound state's store is sound when the rest of `Sound` holds of it. -/
theorem State.Sound.of_profiles_eq {s t : State} (hs : s.Sound) (hprof : t.profiles = s.profiles)
    (hwait : t.waitTimer = none)
    (hseq : ∃ i : Instr, i.wellFormed s.profiles.length = true ∧ t.seq <:+ expand s.profiles i)
    (herr : t.errIllegal = true → t.fault = true) (hhost : t.host.InPlace t.cmdPort) : t.Sound where
  noWait := hwait
  seqRest := by simpa [State.numProfiles, hprof] using hseq
  errFault := herr
  store := hprof ▸ hs.store
  hostIndex h hh := (hhost h hh).1
  hostOffer h hh := (hhost h hh).2

/-- Settles O30, by the six things a step can be. -/
theorem soundKeptByStep : Obligations.SoundKeptByStep := by
  intro s t hs hstep
  cases step_iff.mp hstep with
  | reset hr =>
    exact hs.of_profiles_eq rfl rfl (nil_rest_of_command _) (by simp) (HostAgent.InPlace.onReset _ _)
  | endWait hr hw => exact absurd hs.noWait (by simpa [State.waiting, Option.isSome_iff_ne_none] using hw)
  | @microOp m rest hr hw hseq =>
    obtain ⟨i, hi, hsuffix⟩ := hs.seqRest
    have hrest : rest <:+ expand s.profiles i := (List.suffix_cons m rest).trans (hseq ▸ hsuffix)
    exact hs.of_profiles_eq (by simp) (State.microOp_waitTimer _ _ hs.noWait) ⟨i, hi, by simpa using hrest⟩
      (by simpa using hs.errFault) (by simpa using hs.inPlace)
  | idle hr hw hseq hport =>
    exact hs.of_profiles_eq rfl hs.noWait (by simpa [hseq] using nil_rest_of_command s.profiles) hs.errFault
      hs.inPlace.present
  | @legal w i ha hd =>
    exact hs.of_profiles_eq rfl hs.noWait ⟨i, wellFormed_of_decode hd, List.suffix_rfl⟩ hs.errFault
      hs.inPlace.accepted.present
  | illegal ha hd => exact hs.of_profiles_eq rfl hs.noWait hs.seqRest (by simp) hs.inPlace.accepted.present

/-! ### TraceAgrees -/

/-- A state that only moved its inputs or its wait timer agrees with its trace as before. -/
theorem State.TraceAgrees.congr {s t : State} (hs : s.TraceAgrees) (hprof : t.profiles = s.profiles)
    (htrace : t.trace = s.trace) (hlines : t.lines = s.lines) (htxn : t.txnOpen = s.txnOpen)
    (herr : t.errIllegal = s.errIllegal) (hfault : t.fault = s.fault) : t.TraceAgrees := by
  have hnum : t.numProfiles = s.numProfiles := congrArg List.length hprof
  constructor
  · rw [hlines, htrace, hs.lines]
  · rw [htxn, htrace, hnum, hs.txnOpen]
  · rw [herr, htrace, hnum, hs.errIllegal]
  · rw [hfault, htrace, hnum, hs.fault]

/-- A state that has done to its fields what one more event says agrees with its trace. -/
theorem State.TraceAgrees.snoc {s t : State} (hs : s.TraceAgrees) (e : Event) (hprof : t.profiles = s.profiles)
    (htrace : t.trace = s.trace ++ [e]) (hlines : t.lines = eventEffect s.lines e)
    (htxn : t.txnOpen = txnAfterEvent s.numProfiles s.txnOpen e)
    (herr : t.errIllegal = errAfterEvent s.numProfiles s.errIllegal e)
    (hfault : t.fault = (s.fault || e.illegal s.numProfiles)) : t.TraceAgrees := by
  have hnum : t.numProfiles = s.numProfiles := congrArg List.length hprof
  constructor
  · simp [hlines, htrace, hs.lines, traceLines]
  · simp [htxn, htrace, hnum, hs.txnOpen]
  · simp [herr, htrace, hnum, hs.errIllegal]
  · simp [hfault, htrace, hnum, hs.fault]

/-- Settles O33, by the six things a step can be: each adds the one event that says what it did to the lines and flags, or
adds none and leaves them. -/
theorem traceAgreesKeptByStep : Obligations.TraceAgreesKeptByStep := by
  intro s t hs hstep
  cases step_iff.mp hstep with
  | reset hr => exact hs.snoc .reset rfl (by simp) rfl rfl rfl (by simp [Event.illegal])
  | endWait hr hw => exact hs.congr rfl rfl rfl rfl rfl rfl
  | @microOp m rest hr hw hseq =>
    exact hs.snoc (.op m) (by simp) (by simp) (by simp [eventEffect]) (by simp [txnAfterEvent])
      (by simp [errAfterEvent]) (by simp [Event.illegal])
  | idle hr hw hseq hport => exact hs.congr rfl rfl rfl rfl rfl rfl
  | @legal w i ha hd =>
    have hdecode : decode s.numProfiles (encode i) = some i := decode_encode (wellFormed_of_decode hd)
    exact hs.snoc (.accept (encode i)) rfl (by simp) rfl (by simp [txnAfterEvent, hdecode])
      (by simp [errAfterEvent, hdecode]) (by simp [Event.illegal, hdecode])
  | @illegal w ha hd =>
    exact hs.snoc (.accept w) rfl (by simp) rfl (by simp [txnAfterEvent, hd]) (by simp [errAfterEvent, hd])
      (by simp [Event.illegal, hd])

/-- Settles O31: the reset state is idle with an empty port and an empty stream, and its trace is the reset. -/
theorem invariantsHoldAtReset : Obligations.InvariantsHoldAtReset where
  left :=
    { noWait := rfl
      seqRest := nil_rest_of_command _
      errFault := fun h => by cases h
      store := rfl
      hostIndex := fun _ h => by cases h
      hostOffer := fun _ h => by cases h }
  right := ⟨rfl, rfl, rfl, rfl⟩

/-! ### The length of SEQ (R23) -/

theorem expandSendByte_length (v : Byte) : (expandSendByte v).length = 48 := rfl

theorem expandSendRegister_length (w : Word) : (expandSendRegister w).length = 197 := by
  simp [expandSendRegister, bytesMsbFirst, expandSendByte_length, latchTail]

/-- OPEN_TXN's 12, 197 for each of six registers, CLOSE_TXN's 6, and two waits. -/
theorem expandApplyProfile_length (p : Profile) : (expandApplyProfile p).length = 1202 := by
  simp [expandApplyProfile, laterRegisters, expandSendRegister_length, expandOpenTxn, expandCloseTxn]

theorem expand_length_le (store : List Profile) (i : Instr) : (expand store i).length ≤ 1202 := by
  cases i with
  | applyProfile k =>
    cases hk : storeProfile store k with
    | none => simp [expand, hk]
    | some p => simp [expand, hk, expandApplyProfile_length]
  | sendByte v => simp [expand, expandSendByte_length]
  | sendRegister w => simp [expand, expandSendRegister_length]
  | openTxn | closeTxn => simp [expand, expandOpenTxn, expandCloseTxn]
  | setSignal | delayUs | delayMs => simp [expand, expandSetSignal, expandDelayUs, expandDelayMs]

/-- Settles O32: SEQ is a suffix of some command's sequence, and APPLY_PROFILE's 1202 micro-ops are the most. -/
theorem seqLengthAtMost1202 : Obligations.SeqLengthAtMost1202 := by
  intro s hs
  obtain ⟨i, _, hsuffix⟩ := hs.seqRest
  exact hsuffix.length_le.trans (expand_length_le s.profiles i)

end Sys2Proof.Machine
end

section
/-! What one step does to the flags, the marks, the trace, the lines and the store (spec/10_state.md R19 to R43). -/

namespace Sys2Proof.Machine

/-! ### Marks are only added (R36) -/

theorem has_addMark_of_has {V : Violations} {v : Violation} (mark : Option Violation) (h : V.has v = true) :
    (addMark V mark).has v = true := by
  cases mark with
  | none => exact h
  | some v' => exact V.has_add_of_has v' v h

/-! ### The flags (R26, R27) -/

/-- A step that neither resets nor accepts a word leaves both flags. -/
theorem flags_of_not_accepts {s t : State} (hstep : step s = .next t) (hr : s.resetAsserted = false)
    (hna : ∀ w, ¬ s.Accepts w) : t.txnOpen = s.txnOpen ∧ t.errIllegal = s.errIllegal := by
  cases step_iff.mp hstep with
  | reset hr' => exact absurd hr' (by simp [hr])
  | endWait => exact ⟨rfl, rfl⟩
  | microOp => exact ⟨State.microOp_txnOpen .., State.microOp_errIllegal ..⟩
  | idle => exact ⟨rfl, rfl⟩
  | legal ha | illegal ha => exact absurd ha (hna _)

/-- Settles O24: a reset and each accept have their own case of a step, and every other step leaves the flags. -/
theorem txnOpenChangesOnlyAtAcceptAndReset : Obligations.TxnOpenChangesOnlyAtAcceptAndReset := by
  intro s t hstep
  refine ⟨fun hr => ?_, fun hr hna => (flags_of_not_accepts hstep hr hna).1, fun w ha hd => ?_, fun w i ha hd => ?_⟩
  · rw [(StepsTo.reset hr).eq_of_step hstep, State.applyReset_txnOpen]
  · obtain rfl := (StepsTo.illegal ha hd).eq_of_step hstep
    exact ⟨rfl, rfl⟩
  · obtain rfl := (StepsTo.legal ha hd).eq_of_step hstep
    exact ⟨rfl, rfl⟩

/-- A step that accepts a word sets ERR_ILLEGAL exactly when the word is illegal, and never clears it. -/
theorem errIllegal_of_accepts {s t : State} {w : CmdWord} (hstep : step s = .next t) (ha : s.Accepts w) :
    t.errIllegal = (s.errIllegal || !legal s.profiles.length w) := by
  rw [legal_eq_isSome_decode]
  cases hd : decode s.profiles.length w with
  | none => simp [(StepsTo.illegal ha hd).eq_of_step hstep]
  | some i => simp [(StepsTo.legal ha hd).eq_of_step hstep]

/-- Settles O25: only a reset and an accept move ERR_ILLEGAL. -/
theorem errIllegalStickyUntilReset : Obligations.ErrIllegalStickyUntilReset := by
  intro s t hstep
  refine ⟨fun hr => ?_, fun hr herr => ?_, fun hr herr => ?_⟩
  · rw [(StepsTo.reset hr).eq_of_step hstep, State.applyReset_errIllegal]
  · by_cases hacc : ∃ w, s.Accepts w
    · obtain ⟨w, ha⟩ := hacc
      simp [errIllegal_of_accepts hstep ha, herr]
    · rw [(flags_of_not_accepts hstep hr (not_exists.mp hacc)).2, herr]
  · by_cases hacc : ∃ w, s.Accepts w
    · obtain ⟨w, ha⟩ := hacc
      rw [errIllegal_of_accepts hstep ha, herr, Bool.false_or, Bool.not_eq_true']
      exact ⟨fun hl => ⟨w, ha, hl⟩, fun ⟨w', ha', hl⟩ => ha.unique ha' ▸ hl⟩
    · rw [(flags_of_not_accepts hstep hr (not_exists.mp hacc)).2, herr]
      exact ⟨fun h => (Bool.false_ne_true h).elim, fun ⟨w, ha, _⟩ => absurd ⟨w, ha⟩ hacc⟩

/-! ### The ghost state and the store (R30, R33, R34, R36) -/

/-- Settles O26, by the six things a step can be. -/
theorem ghostMarksNeverCleared : Obligations.GhostMarksNeverCleared := by
  intro s t hstep
  cases step_iff.mp hstep with
  | reset hr => exact ⟨id, fun _ => id, .inr ⟨.reset, by simp⟩⟩
  | endWait hr hw => exact ⟨id, fun _ => id, .inl rfl⟩
  | @microOp m rest hr hw hseq =>
    refine ⟨by simp, fun v hv => ?_, .inr ⟨.op m, by simp⟩⟩
    rw [State.microOp_viol]
    split
    · exact s.viol.has_add_of_has _ v hv
    · exact hv
  | idle hr hw hseq hport => exact ⟨id, fun _ => id, .inl rfl⟩
  | @legal w i ha hd => exact ⟨id, fun v => has_addMark_of_has _, .inr ⟨.accept (encode i), by simp⟩⟩
  | @illegal w ha hd => exact ⟨fun _ => rfl, fun _ => id, .inr ⟨.accept w, by simp⟩⟩

/-- Settles O27: none of the six things a step can be writes the store. -/
theorem profileStoreNeverWritten : Obligations.ProfileStoreNeverWritten := by
  intro s t hstep
  cases step_iff.mp hstep with
  | microOp => exact State.microOp_profiles ..
  | reset | endWait | idle | legal | illegal => rfl

/-! ### The lines (R19, R20, R54) -/

/-- A micro-op that changes a line is the Drive of that line to its new level. -/
theorem eq_drive_of_lineEffect_ne {L : Lines} {m : MicroOp} {sig : Signal}
    (h : (lineEffect L m).get sig ≠ L.get sig) : m = .drive sig ((lineEffect L m).get sig) := by
  cases m with
  | wait k => exact absurd rfl h
  | drive sig' l =>
    by_cases hsig : sig = sig'
    · simp [hsig, lineEffect]
    · exact absurd (L.get_set_other sig' sig l hsig) h

/-- Settles O28: a step without a reset that changes a line is a micro-op. -/
theorem onlyADriveChangesALine : Obligations.OnlyADriveChangesALine := by
  intro s t sig hstep hr hne
  cases step_iff.mp hstep with
  | reset hr' => exact absurd hr' (by simp [hr])
  | @microOp m rest hr hw hseq =>
    rw [State.microOp_lines] at hne ⊢
    have hm := eq_drive_of_lineEffect_ne hne
    refine ⟨⟨rest, by rw [hseq, ← hm]⟩, fun sig' hsig => ?_⟩
    rw [hm]
    exact s.lines.get_set_other sig sig' _ hsig
  | endWait | idle | legal | illegal => exact absurd rfl hne

/-! ### Each kind of step (R38) -/

/-- Settles O21: the six conditions leave no state out. -/
theorem stepAlwaysNext : Obligations.StepAlwaysNext := fun s =>
  (exists_stepsTo s).imp fun _ => StepsTo.step_eq

/-- Settles O15. -/
theorem stepRunsDecodedCommand : Obligations.StepRunsDecodedCommand := fun s _ _ ha hd => by
  rw [step_of_decode ha hd, s.tick.takeOffer_eq]
  rfl

/-- Settles O20. -/
theorem quiescentStepChangesNothing : Obligations.QuiescentStepChangesNothing := fun s hb hw hr hport => by
  rw [step_of_idle hr hw (s.busy_eq_false_iff.mp hb) hport, s.tick.presentOffer_eq]
  rfl

theorem changesDataWhileClockHigh_iff (L : Lines) (sig : Signal) (l : Level) :
    changesDataWhileClockHigh L sig l = true ↔ sig = .data ∧ L.clock = .high ∧ l ≠ L.data := by
  simp [changesDataWhileClockHigh, and_assoc]

/-- Settles O18: the step is `State.microOp`, whose line and mark a Drive and a Wait set each in their own way. -/
theorem microStepPerformsHead : Obligations.MicroStepPerformsHead := by
  intro s m rest hr hw hseq
  refine ⟨s.microOp m rest, step_of_busy hr hw hseq, State.microOp_seq .., State.microOp_trace ..,
    State.microOp_waitTimer _ _ (s.waiting_eq_false_iff.mp hw), State.microOp_txnOpen .., State.microOp_errIllegal ..,
    State.microOp_fault .., State.microOp_profiles .., by simp [State.busy], ?drive, ?wait⟩
  case drive =>
    rintro sig l rfl
    refine ⟨by simp [lineEffect], fun sig' hsig => ?_, ?_⟩
    · simpa [lineEffect] using s.lines.get_set_other sig sig' l hsig
    · simp only [State.microOp_viol, breaksDataStability, Bool.or_false, changesDataWhileClockHigh_iff]
      rfl
  case wait =>
    rintro k rfl
    simp [lineEffect, breaksDataStability]

/-- Settles O19: a busy block that is not reset ends its wait or performs a micro-op, and neither is an accept. -/
theorem busyBlockKeepsOfferWaiting : Obligations.BusyBlockKeepsOfferWaiting := by
  intro s hb hr
  have hready : s.cmdReady = false := by simp [State.cmdReady, hb]
  cases hw : s.waiting with
  | true => exact ⟨_, (StepsTo.endWait hr hw).step_eq, rfl, rfl, hready, by simp⟩
  | false =>
    obtain ⟨m, rest, hseq⟩ := s.busy_iff.mp hb
    exact ⟨_, step_of_busy hr hw hseq, by simp, by simp, hready, by simp⟩

/-! ### STATUS (R24, R25, R28, R39) -/

theorem levelBit_eq_true_iff (l : Level) : levelBit l = true ↔ l = .high := by cases l <;> simp [levelBit]

theorem getLsbD_append_bit_zero {n : Nat} (x : BitVec n) (b : BitVec 1) : (x ++ b).getLsbD 0 = b.getLsbD 0 := by
  rw [BitVec.getLsbD_append, if_pos Nat.one_pos]

theorem getLsbD_append_bit_succ {n : Nat} (x : BitVec n) (b : BitVec 1) (k : Nat) :
    (x ++ b).getLsbD (k + 1) = x.getLsbD k := by
  rw [BitVec.getLsbD_append, if_neg (by omega), Nat.add_sub_cancel]

theorem getLsbD_flagBit_zero (b : Bool) : (flagBit b).getLsbD 0 = b := by cases b <;> rfl

/-- Settles O22: STATUS is eight one-bit vectors in a row, so its bit n is the n-th of them from the right. -/
theorem statusBits : Obligations.StatusBits := by
  intro s
  simp only [State.status, getLsbD_append_bit_succ, getLsbD_append_bit_zero, getLsbD_flagBit_zero, levelBit_eq_true_iff]
  simp [State.busy]

/-- Settles O23. -/
theorem resetStateValues : Obligations.ResetStateValues := by
  refine ⟨rfl, rfl, rfl, rfl, rfl, ?_, rfl, rfl, rfl, rfl⟩
  decide

end Sys2Proof.Machine
end

section
/-! The run of a whole command (spec/10_state.md R42, R43, R45): the micro-steps of a busy block that is not reset, in one
formula, and before them the accept that fills SEQ. -/

namespace Sys2Proof.Machine

/-! ### The reset input over several steps -/

theorem State.noResetFor_succ (n : Nat) (s : State) :
    s.noResetFor (n + 1) = (!s.resetAsserted && s.tick.noResetFor n) := by
  cases h : s.resetSchedule <;> simp [State.noResetFor, State.resetAsserted, h]

theorem State.noResetFor_of_le {n k : Nat} {s : State} (h : s.noResetFor k = true) (hle : n ≤ k) :
    s.noResetFor n = true := by
  rw [State.noResetFor, List.all_eq_true] at h ⊢
  exact fun b hb => h b (List.take_subset_take_left _ hle hb)

/-! ### The data-stability mark of a list of micro-ops (R36, R43) -/

theorem Violations.add_add_same (V : Violations) (v : Violation) : (V.add v).add v = V.add v := by cases v <;> rfl

theorem breaksDataStability_cons (L : Lines) (m : MicroOp) (ops : List MicroOp) :
    breaksDataStability L (m :: ops) = (breaksDataStability L [m] || breaksDataStability (lineEffect L m) ops) := by
  cases m <;> simp [breaksDataStability, lineEffect]

/-- The mark a list of micro-ops, begun at the levels L, adds. -/
def dataMark (L : Lines) (ops : List MicroOp) : Option Violation :=
  if breaksDataStability L ops then some .dataWhileClockHigh else none

theorem dataMark_nil (L : Lines) : dataMark L [] = none := rfl

/-- The mark of the first micro-op and the mark of the others make the mark of them all. -/
theorem addMark_dataMark_cons (V : Violations) (L : Lines) (m : MicroOp) (ops : List MicroOp) :
    addMark (if breaksDataStability L [m] then V.add .dataWhileClockHigh else V) (dataMark (lineEffect L m) ops)
      = addMark V (dataMark L (m :: ops)) := by
  rw [dataMark, dataMark, breaksDataStability_cons L m ops]
  cases breaksDataStability L [m] <;> cases breaksDataStability (lineEffect L m) ops <;>
    simp [addMark, Violations.add_add_same]

/-! ### Micro-steps -/

/-- The state in which the first n micro-ops of SEQ have been performed. -/
def State.afterOps (n : Nat) (s : State) : State :=
  { s with
    lines := linesAfter s.lines (s.seq.take n)
    seq := s.seq.drop n
    traceRev := ((s.seq.take n).map Event.op).reverse ++ s.traceRev
    viol := addMark s.viol (dataMark s.lines (s.seq.take n))
    resetSchedule := s.resetSchedule.drop n }

theorem State.afterOps_zero (s : State) : s.afterOps 0 = s := by
  simp [State.afterOps, dataMark_nil, linesAfter, addMark]

theorem State.afterOps_microOp {s : State} {m : MicroOp} {rest : List MicroOp} (hseq : s.seq = m :: rest)
    (hw : s.waitTimer = none) (n : Nat) : (s.microOp m rest).afterOps n = s.afterOps (n + 1) := by
  have hwait : (s.microOp m rest).waitTimer = s.waitTimer := (State.microOp_waitTimer m rest hw).trans hw.symm
  have htrace : (s.microOp m rest).traceRev = .op m :: s.traceRev := by rw [State.microOp_eq]
  simp only [State.afterOps, State.microOp_lines, State.microOp_seq, State.microOp_txnOpen, State.microOp_errIllegal,
    State.microOp_fault, State.microOp_viol, State.microOp_profiles, State.microOp_cmdPort, State.microOp_host,
    State.microOp_resetSchedule, addMark_dataMark_cons, hwait, htrace, hseq]
  simp [linesAfter]

/-- A busy block that is not reset performs the micro-ops of SEQ in order, one a step. -/
theorem runFor_eq_afterOps {n : Nat} {s : State} (hw : s.waitTimer = none) (hr : s.noResetFor n = true)
    (hn : n ≤ s.seq.length) : runFor n s = .next (s.afterOps n) := by
  induction n generalizing s with
  | zero => rw [State.afterOps_zero]; rfl
  | succ n ih =>
    obtain ⟨m, rest, hseq⟩ := List.exists_cons_of_length_pos (Nat.zero_lt_of_lt hn)
    rw [State.noResetFor_succ, Bool.and_eq_true, Bool.not_eq_true'] at hr
    obtain ⟨hnow, hlater⟩ := hr
    have hstep : step s = .next (s.microOp m rest) := step_of_busy hnow (s.waiting_eq_false_iff.mpr hw) hseq
    rw [runFor_succ_of_next hstep, ← State.afterOps_microOp hseq hw]
    refine ih (State.microOp_waitTimer m rest hw) ?_ ?_
    · simpa [State.noResetFor] using hlater
    · simpa [hseq] using hn

/-! ### Whole commands -/

/-- The accept of a legal command and then n steps: its accept, and the first n micro-ops of its sequence. -/
theorem runFor_of_runs {s : State} {i : Instr} {n : Nat} (hs : s.Runs i) (hn : n ≤ (expand s.profiles i).length) :
    runFor (1 + n) s = .next ((s.tick.takeOffer.acceptInstr i).afterOps n) := by
  obtain ⟨ha, hi, hr⟩ := hs
  have hr : s.noResetFor (n + 1) = true := State.noResetFor_of_le hr (by omega)
  rw [State.noResetFor_succ, Bool.and_eq_true] at hr
  have hstep := step_of_legal ha (decode_encode hi)
  rw [Nat.add_comm, runFor_succ_of_next hstep]
  exact runFor_eq_afterOps ha.waitTimer_eq_none hr.2 hn

/-- Settles O34: the fields of the state `runFor_of_runs` gives. -/
theorem legalCommandRunsItsSequence : Obligations.LegalCommandRunsItsSequence := by
  intro s i n hs hn
  refine ⟨_, runFor_of_runs hs hn, ?trace, rfl, rfl, rfl, rfl, rfl, hs.1.waitTimer_eq_none, rfl, rfl,
    ?busy, rfl, rfl⟩
  case trace => simp [State.trace, State.afterOps, State.acceptInstr]
  case busy => simp [State.busy, State.afterOps]

end Sys2Proof.Machine
end

section
/-! The least time between two events of a timed reading (spec/10_state.md R44; spec/70_reset_and_hazards.md R187). -/

namespace Sys2Proof.Machine

/-- An event that is not a reset comes no earlier than the wait before it takes. -/
theorem add_leastTime_le_of_neighboursTimed {admissible : WaitKind → Set Duration} {atLeast : WaitKind → Duration}
    (hbound : ∀ k, ∀ d ∈ admissible k, atLeast k ≤ d) {e e' : Event} {t t' : Duration}
    (h : neighboursTimed admissible e e' t t') (hreset : e' ≠ .reset) : t + e.leastTime atLeast ≤ t' := by
  cases e' with
  | reset => exact absurd rfl hreset
  | op m' =>
    rcases e with (_ | k) | _ | _
    case op.wait =>
      obtain ⟨d, hd, rfl⟩ := h
      exact add_le_add_right (hbound k d hd) t
    case op.drive => exact (add_zero t).trans_le h.ge
    case accept => exact (add_zero t).trans_le h.ge
    case reset => exact (add_zero t).trans_le h
  | accept w =>
    rcases e with (_ | k) | _ | _
    case op.wait =>
      obtain ⟨d, hd, hle⟩ := h
      exact (add_le_add_right (hbound k d hd) t).trans hle
    all_goals exact (add_zero t).trans_le h

/-- Settles O58, by induction on the events between the two. -/
theorem timedReadingLowerBound : Obligations.TimedReadingLowerBound := by
  intro admissible atLeast hbound first last between
  induction between generalizing first with
  | nil =>
    intro htimed hreset
    have hle := add_leastTime_le_of_neighboursTimed hbound htimed.1 (hreset last (by simp))
    simpa using hle
  | cons next between ih =>
    intro htimed hreset
    obtain ⟨hfirst, hrest⟩ := htimed
    have hle := add_leastTime_le_of_neighboursTimed hbound hfirst (hreset next (by simp))
    have hih := ih next hrest fun e he => hreset e (List.mem_cons_of_mem _ he)
    simp only [List.map_cons, List.sum_cons] at hih ⊢
    calc first.2 + (first.1.leastTime atLeast + (next.1.leastTime atLeast + _))
        = (first.2 + first.1.leastTime atLeast) + (next.1.leastTime atLeast + _) := (add_assoc ..).symm
      _ ≤ next.2 + (next.1.leastTime atLeast + _) := add_le_add_left hle _
      _ ≤ last.2 := hih

end Sys2Proof.Machine
end

section
/-! The wire format of SEND_BYTE and SEND_REGISTER (spec/20_memory.md R48, R49): both are bit-cycles of the operand's bits,
the most significant first, and SEND_REGISTER ends with the latch tail. -/

namespace Sys2Proof.Machine

/-! ### The low bits of a value, bit n-1 first -/

/-- Bits n-1 down to 0. -/
def lowBits (n : Nat) {k : Nat} (x : BitVec k) : List Bool := (List.range n).reverse.map x.getLsbD

theorem lowBits_succ (n : Nat) {k : Nat} (x : BitVec k) : lowBits (n + 1) x = x.getLsbD n :: lowBits n x := by
  simp [lowBits, List.range_succ]

theorem lowBits_congr {n k m : Nat} {x : BitVec k} {y : BitVec m} (h : ∀ i < n, x.getLsbD i = y.getLsbD i) :
    lowBits n x = lowBits n y :=
  List.map_congr_left fun i hi => h i (by simpa using hi)

theorem bitsMsbFirst_eq_lowBits (v : Byte) : bitsMsbFirst v = lowBits 8 v := rfl

theorem getLsbD_byteAt (w : Word) (j : Nat) {i : Nat} (hi : i < 8) : (byteAt w j).getLsbD i = w.getLsbD (j + i) := by
  have hmask : ∀ i (h : i < 8), (0xFF#8)[i] = true := by decide
  simp [byteAt, hi, hmask i hi]

theorem bitsMsbFirst_byteAt (w : Word) (j : Nat) :
    bitsMsbFirst (byteAt w j) = (List.range 8).reverse.map (fun i => w.getLsbD (j + i)) :=
  (bitsMsbFirst_eq_lowBits _).trans (List.map_congr_left fun _ hi => getLsbD_byteAt w j (by simpa using hi))

/-- The bytes at offsets 24, 16, 8 and 0, each bit 7 first, are bits 31 to 0 in order (R49, R105). -/
theorem bytesMsbFirst_flatMap_bits (w : Word) : (bytesMsbFirst w).flatMap bitsMsbFirst = lowBits 32 w := by
  simp only [bytesMsbFirst, List.flatMap_cons, List.flatMap_nil, bitsMsbFirst_byteAt]
  rfl

/-! ### The sequences (R96, R104) -/

theorem expandSendByte_eq (v : Byte) : expandSendByte v = (lowBits 8 v).flatMap bitCycle := rfl

theorem expandSendRegister_eq (w : Word) :
    expandSendRegister w = (lowBits 32 w).flatMap bitCycle ++ latchTail := by
  have hassoc : (bytesMsbFirst w).flatMap expandSendByte = ((bytesMsbFirst w).flatMap bitsMsbFirst).flatMap bitCycle :=
    List.flatMap_assoc.symm
  rw [expandSendRegister, hassoc, bytesMsbFirst_flatMap_bits]

/-- Settles O49: a bit-cycle has one Drive of DATA, that of its bit, and the latch tail has none. -/
theorem registerBitsMostSignificantFirst : Obligations.RegisterBitsMostSignificantFirst := by
  intro w
  have hcycle : ∀ b : Bool, (bitCycle b).filter (fun m => decide (m = .drive .data .low ∨ m = .drive .data .high))
      = [.drive .data (bitLevel b)] := by decide
  have htail : latchTail.filter (fun m => decide (m = .drive .data .low ∨ m = .drive .data .high)) = [] := by decide
  rw [expandSendRegister_eq, List.filter_append, htail, List.append_nil, List.filter_flatMap]
  simp only [hcycle, ← List.map_eq_flatMap, lowBits, List.map_map]
  rfl

/-! ### Lines a sequence does not drive (R19) -/

theorem linesAfter_append (L : Lines) (ops ops' : List MicroOp) :
    linesAfter L (ops ++ ops') = linesAfter (linesAfter L ops) ops' := List.foldl_append

theorem get_linesAfter_of_not_driven {sig : Signal} {ops : List MicroOp} (h : ∀ l, .drive sig l ∉ ops) (L : Lines) :
    (linesAfter L ops).get sig = L.get sig := by
  induction ops generalizing L with
  | nil => rfl
  | cons m ops ih =>
    have hrest : (linesAfter (lineEffect L m) ops).get sig = (lineEffect L m).get sig :=
      ih (fun l hl => h l (List.mem_cons_of_mem _ hl)) _
    refine hrest.trans ?_
    cases m with
    | wait k => rfl
    | drive other l =>
      have hne : sig ≠ other := by
        rintro rfl
        exact h l List.mem_cons_self
      exact Lines.get_set_other _ _ _ _ hne

theorem linesAfter_bitCycles_latchEnable (L : Lines) (bits : List Bool) :
    (linesAfter L (bits.flatMap bitCycle)).latchEnable = L.latchEnable :=
  get_linesAfter_of_not_driven (sig := .latchEnable) (by simp [bitCycle]) L

theorem linesAfter_bitCycles_chipSelect (L : Lines) (bits : List Bool) :
    (linesAfter L (bits.flatMap bitCycle)).chipSelect = L.chipSelect :=
  get_linesAfter_of_not_driven (sig := .chipSelect) (by simp [bitCycle]) L

theorem linesAfter_sendRegister_chipSelect (L : Lines) (w : Word) :
    (linesAfter L (expandSendRegister w)).chipSelect = L.chipSelect :=
  get_linesAfter_of_not_driven (sig := .chipSelect) (by simp [expandSendRegister_eq, bitCycle, latchTail]) L

end Sys2Proof.Machine
end

section
/-! The target observer over a run (spec/20_memory.md R50): what it makes of a list of micro-ops, and what it knows of the
lines at the end of any trace. -/

namespace Sys2Proof.Machine

/-! ### Along a trace -/

theorem Observer.next_lines (o : Observer) (e : Event) : (o.next e).lines = eventEffect o.lines e := by
  rcases e with (_ | _) | _ | _ <;> rfl

/-- The observer's levels are the waveform's last levels (spec/10_state.md R41). -/
theorem observe_lines (trace : List Event) : (observe trace).lines = traceLines trace :=
  (List.foldl_hom Observer.lines (init := Observer.init) fun o e => (o.next_lines e).symm).symm

theorem State.TraceAgrees.observe_lines {s : State} (h : s.TraceAgrees) : (observe s.trace).lines = s.lines :=
  (Machine.observe_lines _).trans h.lines.symm

@[simp] theorem Observer.clockHigh_rising (o : Observer) : o.clockHigh.rising = o.rising := by
  unfold Observer.clockHigh
  split <;> rfl

/-- A pulse has risen and not fallen exactly while LATCH_ENABLE is HIGH. -/
def Observer.RisingWhileHigh (o : Observer) : Prop := o.rising.isSome = true ↔ o.lines.latchEnable = .high

theorem Observer.RisingWhileHigh.next {o : Observer} (h : o.RisingWhileHigh) (e : Event) : (o.next e).RisingWhileHigh := by
  cases e with
  | accept w => exact h
  | reset => simp [RisingWhileHigh, Observer.next, Lines.idle]
  | op m =>
    cases m with
    | wait k => exact h
    | drive sig l =>
      cases sig with
      | data | chipSelect => exact h
      | clock =>
        cases l with
        | low => exact h
        | high => simpa [RisingWhileHigh, Observer.next, sees, Lines.set] using h
      | latchEnable =>
        cases l with
        | low => cases hr : o.rising <;> simp [RisingWhileHigh, Observer.next, sees, latchLow, Lines.set, hr]
        | high =>
          cases hl : o.lines.latchEnable with
          | low => simp [RisingWhileHigh, Observer.next, sees, latchHigh, Lines.set, hl]
          | high => simpa [RisingWhileHigh, Observer.next, sees, latchHigh, Lines.set, hl] using h.mpr hl

theorem observe_risingWhileHigh (trace : List Event) : (observe trace).RisingWhileHigh := by
  induction trace using List.reverseRecOn with
  | nil => simp [observe, Observer.RisingWhileHigh, Observer.init, Lines.idle]
  | append_singleton trace e ih => simpa [observe] using ih.next e

/-! ### Over a list of micro-ops -/

/-- The observer after the events of a list of micro-ops. -/
def Observer.afterOps (o : Observer) (ops : List MicroOp) : Observer := ops.foldl (fun o m => o.next (.op m)) o

theorem Observer.afterOps_append (o : Observer) (ops ops' : List MicroOp) :
    o.afterOps (ops ++ ops') = (o.afterOps ops).afterOps ops' := List.foldl_append

theorem observe_append_command (trace : List Event) (w : CmdWord) (ops : List MicroOp) :
    observe (trace ++ .accept w :: ops.map Event.op) = (observe trace).afterOps ops := by
  simp [observe, Observer.afterOps, Observer.next, List.foldl_map]

/-- The observer and the lines after a whole legal command. -/
theorem observe_of_runs {s t : State} {i : Instr} (hs : s.Runs i) (ht : runFor (s.stepsOf i) s = .next t) :
    observe t.trace = (observe s.trace).afterOps (expand s.profiles i) ∧
      t.lines = linesAfter s.lines (expand s.profiles i) := by
  obtain ⟨u, hu, htrace, -, hlines, -⟩ := legalCommandRunsItsSequence s i _ hs le_rfl
  cases hu.symm.trans ht
  rw [htrace, hlines, List.take_length]
  exact ⟨observe_append_command _ _ _, rfl⟩

/-! ### Bit-cycles (R97) -/

/-- The bits that bit-cycles begun at a level of CLOCK have sampled: entered with CLOCK HIGH, the first has no rising
edge. -/
def edgeBits (clock : Level) (bits : List Bool) : List Bool := if clock = .low then bits else bits.tail

theorem edgeBits_cons (clock : Level) (b : Bool) (bits : List Bool) :
    edgeBits clock (b :: bits) = edgeBits clock [b] ++ bits := by cases clock <;> rfl

theorem edgeBits_lowBits (clock : Level) (n : Nat) {k : Nat} (x : BitVec k) :
    edgeBits clock (lowBits (n + 1) x) = lowBits (if clock = .low then n + 1 else n) x := by
  cases clock <;> simp [edgeBits, lowBits_succ]

/-- Bits sampled at one level of CHIP_SELECT. -/
def samplesAt (chipSelect : Level) (bits : List Bool) : List Sample :=
  bits.map fun b => { bit := b, chipSelect := chipSelect }

theorem samplesAt_append (chipSelect : Level) (bits bits' : List Bool) :
    samplesAt chipSelect (bits ++ bits') = samplesAt chipSelect bits ++ samplesAt chipSelect bits' := List.map_append

theorem Observer.afterOps_bitCycle (o : Observer) (b : Bool) :
    o.afterOps (bitCycle b) = { o with
      lines := linesAfter o.lines (bitCycle b)
      sampled := o.sampled ++ edgeBits o.lines.clock [b]
      window := o.window ++ samplesAt o.lines.chipSelect (edgeBits o.lines.clock [b]) } := by
  have hbit : levelBit (bitLevel b) = b := by cases b <;> rfl
  cases hc : o.lines.clock <;>
    simp [bitCycle, Observer.afterOps, Observer.next, Observer.sees, Observer.clockHigh, Lines.set, linesAfter, lineEffect,
      edgeBits, samplesAt, hc, hbit]

theorem Observer.afterOps_bitCycles (o : Observer) (bits : List Bool) :
    o.afterOps (bits.flatMap bitCycle) = { o with
      lines := linesAfter o.lines (bits.flatMap bitCycle)
      sampled := o.sampled ++ edgeBits o.lines.clock bits
      window := o.window ++ samplesAt o.lines.chipSelect (edgeBits o.lines.clock bits) } := by
  induction bits generalizing o with
  | nil => simp [Observer.afterOps, linesAfter, edgeBits, samplesAt]
  | cons b bits ih =>
    have hclock : (linesAfter o.lines (bitCycle b)).clock = .low := rfl
    have hselect : (linesAfter o.lines (bitCycle b)).chipSelect = o.lines.chipSelect := rfl
    rw [List.flatMap_cons, Observer.afterOps_append, Observer.afterOps_bitCycle, ih, edgeBits_cons _ b bits,
      samplesAt_append, linesAfter_append]
    have hlow : edgeBits .low bits = bits := rfl
    simp [hclock, hselect, hlow]

theorem Observer.afterOps_sendByte (o : Observer) (v : Byte) :
    o.afterOps (expandSendByte v) = { o with
      lines := linesAfter o.lines (expandSendByte v)
      sampled := o.sampled ++ lowBits (if o.lines.clock = .low then 8 else 7) v
      window := o.window ++ samplesAt o.lines.chipSelect (lowBits (if o.lines.clock = .low then 8 else 7) v) } := by
  rw [expandSendByte_eq, Observer.afterOps_bitCycles, edgeBits_lowBits]

/-- Settles O50: SEND_BYTE is eight bit-cycles, which only sample. -/
theorem sendByteSampled : Obligations.SendByteSampled := by
  intro s t v hagrees hs ht
  obtain ⟨hobs, -⟩ := observe_of_runs hs ht
  have hlines : (observe s.trace).lines = s.lines := hagrees.observe_lines
  rw [expand, Observer.afterOps_sendByte, hlines] at hobs
  refine ⟨by rw [latchPulses, hobs, latchPulses], fun hc => ?_, fun hc => ?_⟩
  all_goals
    rw [sampled, hobs, hc]
    rfl

/-! ### The latch tail (R106) -/

/-- Entered with LATCH_ENABLE LOW, the tail makes one pulse, of the window as it is. -/
theorem Observer.afterOps_latchTail_low {o : Observer} (h : o.lines.latchEnable = .low) :
    o.afterOps latchTail = { o with
      lines := linesAfter o.lines latchTail
      window := []
      rising := none
      pulses := o.pulses ++ [{ samples := o.window, chipSelect := o.lines.chipSelect }] } := by
  simp [latchTail, Observer.afterOps, Observer.next, Observer.sees, Observer.latchHigh, Observer.latchLow, linesAfter,
    lineEffect, h]

/-- Entered with LATCH_ENABLE HIGH, the tail ends the pulse that has risen and keeps the window's bits. -/
theorem Observer.afterOps_latchTail_high {o : Observer} {q : LatchPulse} (h : o.lines.latchEnable = .high)
    (hq : o.rising = some q) :
    o.afterOps latchTail = { o with
      lines := linesAfter o.lines latchTail
      rising := none
      pulses := o.pulses ++ [q] } := by
  simp [latchTail, Observer.afterOps, Observer.next, Observer.sees, Observer.latchHigh, Observer.latchLow, linesAfter,
    lineEffect, h, hq]

/-! ### SEND_REGISTER (R104) -/

/-- The bits of a word that SEND_REGISTER entered at a level of CLOCK has sampled. -/
def registerBits (clock : Level) (w : Word) : List Bool := lowBits (if clock = .low then 32 else 31) w

theorem Observer.afterOps_registerBits (o : Observer) (w : Word) :
    o.afterOps ((lowBits 32 w).flatMap bitCycle) = { o with
      lines := linesAfter o.lines ((lowBits 32 w).flatMap bitCycle)
      sampled := o.sampled ++ registerBits o.lines.clock w
      window := o.window ++ samplesAt o.lines.chipSelect (registerBits o.lines.clock w) } := by
  rw [Observer.afterOps_bitCycles, edgeBits_lowBits, registerBits]

theorem Observer.afterOps_sendRegister_low {o : Observer} (h : o.lines.latchEnable = .low) (w : Word) :
    o.afterOps (expandSendRegister w) = { o with
      lines := linesAfter o.lines (expandSendRegister w)
      sampled := o.sampled ++ registerBits o.lines.clock w
      window := []
      rising := none
      pulses := o.pulses ++ [{
        samples := o.window ++ samplesAt o.lines.chipSelect (registerBits o.lines.clock w)
        chipSelect := o.lines.chipSelect }] } := by
  rw [expandSendRegister_eq, Observer.afterOps_append, Observer.afterOps_registerBits,
    Observer.afterOps_latchTail_low ((linesAfter_bitCycles_latchEnable _ _).trans h), linesAfter_append,
    linesAfter_bitCycles_chipSelect]

theorem Observer.afterOps_sendRegister_high {o : Observer} {q : LatchPulse} (h : o.lines.latchEnable = .high)
    (hq : o.rising = some q) (w : Word) :
    o.afterOps (expandSendRegister w) = { o with
      lines := linesAfter o.lines (expandSendRegister w)
      sampled := o.sampled ++ registerBits o.lines.clock w
      window := o.window ++ samplesAt o.lines.chipSelect (registerBits o.lines.clock w)
      rising := none
      pulses := o.pulses ++ [q] } := by
  rw [expandSendRegister_eq, Observer.afterOps_append, Observer.afterOps_registerBits, linesAfter_append]
  exact Observer.afterOps_latchTail_high ((linesAfter_bitCycles_latchEnable _ _).trans h) hq

end Sys2Proof.Machine
end

section
/-! What a latch pulse commits (spec/20_memory.md R50, R51): the word of 32 sampled bits, and what SEND_REGISTER's pulse
carries by the levels at its entry (R104, R113). -/

namespace Sys2Proof.Machine

/-! ### The word of 32 bits -/

/-- One step of `bitsToWord`. -/
def pushBit (acc : Word) (b : Bool) : Word := (acc <<< 1) ||| (BitVec.ofBool b).setWidth 32

theorem bitsToWord_eq_foldl (bits : List Bool) : bitsToWord bits = bits.foldl pushBit 0#32 := rfl

theorem pushBit_ushiftRight (w : Word) (n : Nat) : pushBit (w >>> (n + 1)) (w.getLsbD n) = w >>> n := by
  ext i hi
  cases i with
  | zero => simp [pushBit, BitVec.getLsbD_eq_getElem?_getD]
  | succ i => simp [pushBit, Nat.add_assoc, Nat.add_comm 1]

/-- The bits of w above n are in the accumulator; the n bits below follow. -/
theorem foldl_pushBit_lowBits (w : Word) (n : Nat) : (lowBits n w).foldl pushBit (w >>> n) = w := by
  induction n with
  | zero => simp [lowBits]
  | succ n ih => rw [lowBits_succ, List.foldl_cons, pushBit_ushiftRight, ih]

theorem bitsToWord_lowBits (w : Word) : bitsToWord (lowBits 32 w) = w := by
  have hzero : w >>> 32 = 0#32 := BitVec.ushiftRight_eq_zero le_rfl
  rw [bitsToWord_eq_foldl, ← hzero, foldl_pushBit_lowBits]

/-- A bit in front of bits 30 to 0 of a word. -/
theorem cons_lowBits_eq (b : Bool) (w : Word) :
    b :: lowBits 31 w = lowBits 32 (BitVec.ofBool b ++ w.extractLsb' 0 31) := by
  have htop : (BitVec.ofBool b ++ w.extractLsb' 0 31).getLsbD 31 = b := by
    rw [BitVec.getLsbD_append]
    simp
  have hlow : lowBits 31 w = lowBits 31 (BitVec.ofBool b ++ w.extractLsb' 0 31) :=
    lowBits_congr fun i hi => by rw [BitVec.getLsbD_append]; simp [hi]
  rw [lowBits_succ 31, htop, hlow]

/-! ### Clean pulses -/

theorem length_lowBits (n : Nat) {k : Nat} (x : BitVec k) : (lowBits n x).length = n := by simp [lowBits]

/-- A window of exactly the 32 bits of a word, all with CHIP_SELECT LOW, makes a clean pulse that commits the word. -/
theorem clean_and_word_of_samples {p : LatchPulse} {w : Word} (hsamples : p.samples = samplesAt .low (lowBits 32 w))
    (hselect : p.chipSelect = .low) : p.clean = true ∧ p.word = w := by
  constructor
  · simp [LatchPulse.clean, hsamples, hselect, samplesAt, length_lowBits]
  · have hbits : p.samples.map Sample.bit = lowBits 32 w := by
      simp [hsamples, samplesAt, Function.comp_def]
    rw [LatchPulse.word, hbits, bitsToWord_lowBits]

theorem not_clean_of_chipSelect_high {p : LatchPulse} (h : p.chipSelect = .high) : p.clean = false := by
  simp [LatchPulse.clean, h]

theorem cleanWords_append_clean (ps : List LatchPulse) {p : LatchPulse} (h : p.clean = true) :
    cleanWords (ps ++ [p]) = cleanWords ps ++ [p.word] := by simp [cleanWords, h]

theorem cleanWords_append_unclean (ps : List LatchPulse) {p : LatchPulse} (h : p.clean = false) :
    cleanWords (ps ++ [p]) = cleanWords ps := by simp [cleanWords, h]

/-! ### SEND_REGISTER by the levels at its entry -/

theorem stepsOf_sendRegister (s : State) (w : Word) : s.stepsOf (.sendRegister w) = 198 := by
  simp [State.stepsOf, expand, expandSendRegister_length]

/-- The pulse SEND_REGISTER makes when it is entered with LATCH_ENABLE LOW. -/
def State.registerPulse (s : State) (w : Word) : LatchPulse where
  samples := (observe s.trace).window ++ samplesAt s.lines.chipSelect (registerBits s.lines.clock w)
  chipSelect := s.lines.chipSelect

theorem observe_sendRegister_low {s t : State} {w : Word} (hagrees : s.TraceAgrees) (hs : s.Runs (.sendRegister w))
    (ht : runFor 198 s = .next t) (hlatch : s.lines.latchEnable = .low) :
    sampled t.trace = sampled s.trace ++ registerBits s.lines.clock w ∧
      latchPulses t.trace = latchPulses s.trace ++ [s.registerPulse w] := by
  have hlines : (observe s.trace).lines = s.lines := hagrees.observe_lines
  obtain ⟨hobs, -⟩ := observe_of_runs hs (stepsOf_sendRegister s w ▸ ht)
  rw [expand, Observer.afterOps_sendRegister_low (hlines ▸ hlatch), hlines] at hobs
  exact ⟨congrArg Observer.sampled hobs, congrArg Observer.pulses hobs⟩

theorem observe_sendRegister_high {s t : State} {w : Word} (hagrees : s.TraceAgrees) (hs : s.Runs (.sendRegister w))
    (ht : runFor 198 s = .next t) (hlatch : s.lines.latchEnable = .high) :
    ∃ q, (observe s.trace).rising = some q ∧ latchPulses t.trace = latchPulses s.trace ++ [q] ∧
      (observe t.trace).window = (observe s.trace).window ++
        samplesAt s.lines.chipSelect (registerBits s.lines.clock w) := by
  have hlines : (observe s.trace).lines = s.lines := hagrees.observe_lines
  obtain ⟨q, hq⟩ := Option.isSome_iff_exists.mp ((observe_risingWhileHigh s.trace).mpr (hlines ▸ hlatch))
  obtain ⟨hobs, -⟩ := observe_of_runs hs (stepsOf_sendRegister s w ▸ ht)
  rw [expand, Observer.afterOps_sendRegister_high (hlines ▸ hlatch) hq, hlines] at hobs
  exact ⟨q, hq, congrArg Observer.pulses hobs, congrArg Observer.window hobs⟩

/-- Settles O51, by the level of LATCH_ENABLE at entry: LOW, the pulse is `registerPulse`, and its samples are the window's
with the word's; HIGH, the pulse is the one that had risen. -/
theorem sendRegisterCommitsItsWord : Obligations.SendRegisterCommitsItsWord := by
  intro s t w hagrees hs ht
  refine ⟨fun hselect hclock hlatch => ?inside, fun hselect hlatch => ?outside, fun hselect hclock hlatch => ?clockHigh,
    fun hlatch => ?latchHigh⟩
  case inside =>
    obtain ⟨hsampled, hpulses⟩ := observe_sendRegister_low hagrees hs ht hlatch
    have hcommit : (observe s.trace).window = [] → (s.registerPulse w).clean = true ∧ (s.registerPulse w).word = w :=
      fun hwindow => clean_and_word_of_samples
        (by simp [State.registerPulse, registerBits, hwindow, hselect, hclock]) hselect
    refine ⟨?_, ⟨_, hpulses, hcommit⟩, fun hwindow => ?_, ?_⟩
    · rw [hsampled, hclock]
      rfl
    · obtain ⟨hclean, hword⟩ := hcommit hwindow
      rw [committed, hpulses, cleanWords_append_clean _ hclean, hword, committed]
    · obtain ⟨-, hlines⟩ := observe_of_runs hs (stepsOf_sendRegister s w ▸ ht)
      rw [hlines]
      exact (linesAfter_sendRegister_chipSelect _ _).trans hselect
  case outside =>
    obtain ⟨-, hpulses⟩ := observe_sendRegister_low hagrees hs ht hlatch
    rw [committed, hpulses, cleanWords_append_unclean _ (not_clean_of_chipSelect_high hselect), committed]
  case clockHigh =>
    obtain ⟨hsampled, hpulses⟩ := observe_sendRegister_low hagrees hs ht hlatch
    refine ⟨?_, _, hpulses, fun b hwindow => clean_and_word_of_samples ?_ hselect⟩
    · rw [hsampled, hclock]
      rfl
    · rw [← cons_lowBits_eq]
      simp [State.registerPulse, registerBits, samplesAt, hwindow, hselect, hclock]
  case latchHigh =>
    obtain ⟨q, hrising, hpulses, hwindow⟩ := observe_sendRegister_high hagrees hs ht hlatch
    refine ⟨q, hrising, hpulses, ?_⟩
    rw [hwindow, samplesAt, registerBits, lowBits, List.map_map]
    rfl

end Sys2Proof.Machine
end

section
/-! The encoding (spec/30_encoding.md): the decoder and the encoder are each other's inverse (R82), and a word decodes exactly
when it matches a row of the opcode table and passes APPLY_PROFILE's index check (R83). -/

namespace Sys2Proof

/-! ### Decoding after encoding (R65 to R68, R81) -/

/-- Settles O1: `decode_encode`, by the command. -/
theorem decodeOfEncodeIsIdentity : Obligations.DecodeOfEncodeIsIdentity := fun _ _ hi => decode_encode hi

/-- Settles O5: each example word is the encoding of its command, bit for bit, so decoding it gives the command back. -/
theorem exampleWordsDecode : Obligations.ExampleWordsDecode :=
  ⟨decode_encode (i := .setSignal .clock .high) rfl, decode_encode (i := .setSignal .chipSelect .low) rfl,
    decode_encode (i := .setSignal .data .low) rfl, decode_encode (i := .sendByte 0xA5#8) rfl,
    decode_encode (i := .sendRegister 0x01400005#32) rfl, decode_encode (i := .openTxn) rfl,
    decode_encode (i := .closeTxn) rfl, decode_encode (i := .applyProfile 0#8) rfl,
    decode_encode (i := .delayUs 10#32) rfl, decode_encode (i := .delayMs 1000#32) rfl,
    decode_encode (i := .delayMs 10000#32) rfl⟩

/-! ### Encoding after decoding (R82) -/

/-- Row by row of the decoder: the must-be-zero bits it checks are those the command's operands do not carry. -/
theorem fields_of_decode {n : Nat} {w : CmdWord} {i : Instr} (h : decode n w = some i) :
    i.opcode = opField w ∧ i.arg = argField w := by
  unfold decode at h
  split at h
  case h_1 hop =>
    obtain ⟨hzero, hi⟩ := Option.ite_none_right_eq_some.mp h
    cases hi
    exact ⟨hop.symm, by rw [Instr.arg, code_levelOfCode, code_signalOfCode]; exact signalArg_eq hzero⟩
  case h_2 hop =>
    obtain ⟨hzero, hi⟩ := Option.ite_none_right_eq_some.mp h
    cases hi
    exact ⟨hop.symm, byteArg_eq hzero⟩
  case h_4 hop | h_5 hop =>
    obtain ⟨hzero, hi⟩ := Option.ite_none_right_eq_some.mp h
    cases hi
    exact ⟨hop.symm, hzero.symm⟩
  case h_6 hop =>
    obtain ⟨⟨hzero, -⟩, hi⟩ := Option.ite_none_right_eq_some.mp h
    cases hi
    exact ⟨hop.symm, byteArg_eq hzero⟩
  case h_3 hop | h_7 hop | h_8 hop =>
    cases h
    exact ⟨hop.symm, rfl⟩
  case h_9 => cases h

theorem encode_of_decode {n : Nat} {w : CmdWord} {i : Instr} (h : decode n w = some i) : encode i = w := by
  obtain ⟨hop, harg⟩ := fields_of_decode h
  rw [encode, hop, harg, word_eq_fields]

/-- Settles O2: the word is its opcode and operand field, and the decoded command has both. -/
theorem decodeTotalAndEncodeInverts : Obligations.DecodeTotalAndEncodeInverts := by
  refine fun n w => ⟨?none_iff, fun i hi => ?some⟩
  case none_iff => rw [legal_eq_isSome_decode, Option.isSome_eq_false_iff, Option.isNone_iff_eq_none]
  case some =>
    obtain ⟨hop, harg⟩ := fields_of_decode hi
    exact ⟨wellFormed_of_decode hi, hop, harg, encode_of_decode hi⟩

/-! ### What a row fixes of a word (R83) -/

theorem opField_and (a b : CmdWord) : opField (a &&& b) = opField a &&& opField b := BitVec.extractLsb'_and
theorem argField_and (a b : CmdWord) : argField (a &&& b) = argField a &&& argField b := BitVec.extractLsb'_and
theorem reservedS_and (a b : CmdWord) : reservedS (a &&& b) = reservedS a &&& reservedS b := by
  rw [reservedS, argField_and, BitVec.extractLsb'_and]; rfl
theorem reservedB_and (a b : CmdWord) : reservedB (a &&& b) = reservedB a &&& reservedB b := by
  rw [reservedB, argField_and, BitVec.extractLsb'_and]; rfl

/-- A field that lies inside the mask of a row is the row's in every word that matches it. -/
theorem OpcodeRow.field_eq {len : Nat} {field : CmdWord → BitVec len}
    (hand : ∀ a b, field (a &&& b) = field a &&& field b) {r : OpcodeRow} {w : CmdWord} (hw : r.matchesWord w = true)
    (hmask : field r.mask = BitVec.allOnes len) : field w = field r.pattern := by
  have hpattern : w &&& r.mask = r.pattern := beq_iff_eq.mp hw
  rw [← hpattern, hand, hmask, BitVec.and_allOnes]

theorem opField_mask : ∀ r ∈ opcodeRows, opField r.mask = BitVec.allOnes 8 := by decide

theorem row_eq_of_opField_eq :
    ∀ r ∈ opcodeRows, ∀ r' ∈ opcodeRows, opField r.pattern = opField r'.pattern → r = r' := by decide

theorem opField_of_matchesWord {r : OpcodeRow} {w : CmdWord} (hr : r ∈ opcodeRows) (hw : r.matchesWord w = true) :
    opField w = opField r.pattern := OpcodeRow.field_eq opField_and hw (opField_mask r hr)

/-- No word matches two rows: both rows' opcodes are the word's. -/
theorem row_unique {r r' : OpcodeRow} {w : CmdWord} (hr : r ∈ opcodeRows) (hr' : r' ∈ opcodeRows)
    (hw : r.matchesWord w = true) (hw' : r'.matchesWord w = true) : r = r' :=
  row_eq_of_opField_eq r hr r' hr' ((opField_of_matchesWord hr hw).symm.trans (opField_of_matchesWord hr' hw'))

/-- A word that matches a row has the row's opcode, and its must-be-zero bits are zero: the row's clause of R75, except the
index check. -/
theorem legal_of_matchesWord {n : Nat} {r : OpcodeRow} {w : CmdWord} (hr : r ∈ opcodeRows) (hw : r.matchesWord w = true)
    (hindex : r.mnemonic = "APPLY_PROFILE" → (byteField w).toNat < n) : legal n w = true := by
  have hop : opField w = opField r.pattern := opField_of_matchesWord hr hw
  simp only [opcodeRows, List.mem_cons, List.not_mem_nil, or_false] at hr
  rcases hr with rfl | rfl | rfl | rfl | rfl | rfl | rfl | rfl
  case inl => -- SET_SIGNAL
    have hzero : reservedS w = 0#29 := OpcodeRow.field_eq reservedS_and hw rfl
    simp only [legal, hop, hzero]
    rfl
  case inr.inl => -- SEND_BYTE
    have hzero : reservedB w = 0#24 := OpcodeRow.field_eq reservedB_and hw rfl
    simp only [legal, hop, hzero]
    rfl
  case inr.inr.inr.inl | inr.inr.inr.inr.inl => -- OPEN_TXN, CLOSE_TXN
    have hzero : argField w = 0#32 := OpcodeRow.field_eq argField_and hw rfl
    simp only [legal, hop, hzero]
    rfl
  case inr.inr.inr.inr.inr.inl => -- APPLY_PROFILE
    have hzero : reservedB w = 0#24 := OpcodeRow.field_eq reservedB_and hw rfl
    simp only [legal, hop, hzero, hindex rfl]
    rfl
  case inr.inr.inl | inr.inr.inr.inr.inr.inr.inl | inr.inr.inr.inr.inr.inr.inr => -- SEND_REGISTER, DELAY_US, DELAY_MS
    simp only [legal, hop]
    rfl

/-! ### The row of a command (R83) -/

theorem encode_matches_row (i : Instr) : Laws.EncodeRow.Statement i := by
  cases i with
  | setSignal line level => exact Laws.EncodeRow.setSignal line level
  | sendByte v => exact Laws.EncodeRow.sendByte v
  | sendRegister w => exact Laws.EncodeRow.sendRegister w
  | openTxn => exact Laws.EncodeRow.openTxn
  | closeTxn => exact Laws.EncodeRow.closeTxn
  | applyProfile k => exact Laws.EncodeRow.applyProfile k
  | delayUs n => exact Laws.EncodeRow.delayUs n
  | delayMs n => exact Laws.EncodeRow.delayMs n

theorem row_of_decode {n : Nat} {w : CmdWord} {i : Instr} (h : decode n w = some i) :
    ∃ r ∈ opcodeRows, r.matchesWord w = true ∧ r.mnemonic = i.mnemonic := by
  obtain ⟨r, hr, hname, hmatch⟩ := encode_matches_row i
  exact ⟨r, hr, encode_of_decode h ▸ hmatch, hname⟩

theorem byteField_encode_applyProfile (k : Byte) : byteField (encode (.applyProfile k)) = k := by
  simp [byteField, encode, Instr.arg]

theorem byteField_lt_of_decode {n : Nat} {w : CmdWord} {i : Instr} (h : decode n w = some i)
    (hname : i.mnemonic = "APPLY_PROFILE") : (byteField w).toNat < n := by
  cases i with
  | applyProfile k =>
    have hk : k.toNat < n := of_decide_eq_true (wellFormed_of_decode h)
    rwa [← encode_of_decode h, byteField_encode_applyProfile]
  | _ => simp [Instr.mnemonic] at hname

/-- Settles O4: a word that matches a row is legal, and the row of the command it decodes to matches it too, so it is that
row. -/
theorem tableRowsAgreeWithDecoder : Obligations.TableRowsAgreeWithDecoder := by
  refine fun n w => ⟨fun r hr hw hindex => ?_, fun i hi => ⟨row_of_decode hi, byteField_lt_of_decode hi⟩,
    fun r hr r' hr' => row_unique hr hr'⟩
  have hlegal : (decode n w).isSome = true := legal_eq_isSome_decode n w ▸ legal_of_matchesWord hr hw hindex
  obtain ⟨i, hi⟩ := Option.isSome_iff_exists.mp hlegal
  obtain ⟨r', hr', hw', hname⟩ := row_of_decode hi
  exact ⟨i, hi, row_unique hr' hr hw' hw ▸ hname.symm⟩

end Sys2Proof
end

section
/-! The pseudo-instructions (spec/30_encoding.md R80). APPLY_WORDS runs APPLY_PROFILE's micro-ops with two waits replaced, so
what it drives and what it waits for follow from what a replacement of waits does to a list of micro-ops. -/

namespace Sys2Proof.Machine

/-! ### Replacing waits -/

/-- A micro-op with its wait, if it is one, replaced. -/
def MicroOp.mapWait (f : WaitKind → WaitKind) : MicroOp → MicroOp
  | .drive sig l => .drive sig l
  | .wait k => .wait (f k)

theorem drivesOf_map_mapWait (f : WaitKind → WaitKind) (ops : List MicroOp) :
    drivesOf (ops.map (MicroOp.mapWait f)) = drivesOf ops := by
  induction ops with
  | nil => rfl
  | cons m rest ih =>
    cases m with
    | drive sig l => exact congrArg (MicroOp.drive sig l :: ·) ih
    | wait k => exact ih

theorem waitsOf_map_mapWait (f : WaitKind → WaitKind) (ops : List MicroOp) :
    waitsOf (ops.map (MicroOp.mapWait f)) = (waitsOf ops).map f := by
  induction ops with
  | nil => rfl
  | cons m rest ih =>
    cases m with
    | drive sig l => exact ih
    | wait k => exact congrArg (f k :: ·) ih

/-! ### The settles as delays -/

/-- The delay that stands in APPLY_WORDS for each of APPLY_PROFILE's own settles; every other wait as it is. -/
def settleAsDelay (k : WaitKind) : WaitKind :=
  if k = .reg5Settle then .ms 20#32 else if k = .postSettle then .ms 10#32 else k

theorem map_settleAsDelay_sendRegister (w : Word) :
    (expandSendRegister w).map (MicroOp.mapWait settleAsDelay) = expandSendRegister w := by
  rw [expandSendRegister_eq, List.map_append, List.map_flatMap]
  rfl

theorem expand_applyWords (store : List Profile) (p : Profile) :
    (expandPseudo (.applyWords p.reg5 p.reg4 p.reg3 p.reg2 p.reg1 p.reg0)).flatMap (expand store)
      = (expandApplyProfile p).map (MicroOp.mapWait settleAsDelay) := by
  have hopen : expandOpenTxn.map (MicroOp.mapWait settleAsDelay) = expandOpenTxn := rfl
  have hclose : expandCloseTxn.map (MicroOp.mapWait settleAsDelay) = expandCloseTxn := rfl
  simp [expandPseudo, expand, expandApplyProfile, laterRegisters, profileWord, map_settleAsDelay_sendRegister, hopen,
    hclose, expandDelayMs, MicroOp.mapWait, settleAsDelay]

/-! ### LINE_IDLE -/

/-- CLOCK is driven LOW before DATA. -/
theorem breaksDataStability_lineIdle (L : Lines) (store : List Profile) :
    breaksDataStability L ((expandPseudo .lineIdle).flatMap (expand store)) = false := by
  simp [expandPseudo, expand, expandSetSignal, breaksDataStability, changesDataWhileClockHigh, Lines.set]

/-- Settles O6. -/
theorem pseudoInstructionSequences : Obligations.PseudoInstructionSequences := by
  refine fun store p => ⟨fun L => ⟨rfl, breaksDataStability_lineIdle L store⟩, fun n => rfl, ?drives, ?waits⟩
  case drives => rw [expand_applyWords, drivesOf_map_mapWait]
  case waits =>
    rw [expand_applyWords, waitsOf_map_mapWait]
    rfl

end Sys2Proof.Machine
end

section
/-! SET_SIGNAL and the two delays (spec/40_line_driver.md): commands of one micro-op, which the step after the accept
performs (R84, R88, R91). -/

namespace Sys2Proof.Machine

/-! ### The accepts -/

/-- Settles O7: SET_SIGNAL has no protocol check, and its TXN_OPEN after is TXN_OPEN before. -/
theorem setSignalAccept : Obligations.SetSignalAccept := fun line level _ =>
  exec_of_wellFormed (i := .setSignal line level) rfl

/-- Settles O8: a delay has no protocol check, and its TXN_OPEN after is TXN_OPEN before. -/
theorem delayAccept : Obligations.DelayAccept := fun n _ =>
  ⟨exec_of_wellFormed (i := .delayUs n) rfl, exec_of_wellFormed (i := .delayMs n) rfl⟩

/-! ### A command of one micro-op, step by step -/

theorem runFor_one_of_next {s t : State} (h : step s = .next t) : runFor 1 s = .next t := runFor_succ_of_next h 0

theorem runFor_two_of_next {s t u : State} (h : step s = .next t) (h' : step t = .next u) : runFor 2 s = .next u :=
  (runFor_succ_of_next h 1).trans (runFor_one_of_next h')

theorem State.busy_acceptInstr (i : Instr) (s : State) : (s.acceptInstr i).busy = !(expand s.profiles i).isEmpty := rfl

theorem State.busy_microOp (m : MicroOp) (rest : List MicroOp) (s : State) : (s.microOp m rest).busy = !rest.isEmpty := by
  rw [State.busy, State.microOp_seq]

/-- The state after the accept of a command, and the state after the step that performs its only micro-op. -/
theorem steps_of_runs_single {s : State} {i : Instr} {m : MicroOp} (hs : s.Runs i) (hops : expand s.profiles i = [m]) :
    step s = .next (s.tick.takeOffer.acceptInstr i) ∧
      step (s.tick.takeOffer.acceptInstr i) = .next ((s.tick.takeOffer.acceptInstr i).microOp m []) := by
  obtain ⟨ha, hi, hr⟩ := hs
  rw [hops, List.length_singleton, State.noResetFor_succ, State.noResetFor_succ, Bool.and_eq_true, Bool.and_eq_true,
    Bool.not_eq_true', Bool.not_eq_true'] at hr
  obtain ⟨-, hlater, -⟩ := hr
  exact ⟨step_of_legal ha (decode_encode hi),
    step_of_busy hlater ((State.waiting_eq_false_iff _).mpr ha.waitTimer_eq_none) hops⟩

/-! ### The end states -/

/-- What the two delays share: one wait, TXN_OPEN as it was, and no protocol check. -/
theorem delay_frame {n : Word} {i : Instr} {k : WaitKind}
    (h : (i = .delayUs n ∧ k = .us n) ∨ (i = .delayMs n ∧ k = .ms n)) (store : List Profile) (txnOpen : Bool) :
    expand store i = [.wait k] ∧ postTxn txnOpen i = txnOpen ∧ protocolMark txnOpen i = none := by
  rcases h with ⟨rfl, rfl⟩ | ⟨rfl, rfl⟩
  case inl => exact ⟨rfl, rfl, rfl⟩
  case inr => exact ⟨rfl, rfl, rfl⟩

/-- Settles O36: the one micro-op is the Drive, which sets its line and no other. -/
theorem setSignalEndState : Obligations.SetSignalEndState := by
  intro s line level hs
  obtain ⟨haccept, hdrive⟩ := steps_of_runs_single hs rfl
  refine ⟨_, runFor_two_of_next haccept hdrive, State.busy_microOp _ _ _, ?line, fun other hne => ?others, ?txnOpen, ?trace⟩
  case line => simp [lineEffect]
  case others => simp [lineEffect, Lines.get_set_other _ _ _ _ hne]
  case txnOpen => simp [postTxn]
  case trace => simp

/-- Settles O37: the one micro-op is the Wait, which touches no line and adds no mark. -/
theorem delayEndState : Obligations.DelayEndState := by
  intro s n i k hdelay hs
  obtain ⟨hops, hpost, hmark⟩ := delay_frame hdelay s.profiles s.txnOpen
  obtain ⟨haccept, hwait⟩ := steps_of_runs_single hs hops
  refine ⟨_, _, runFor_one_of_next haccept, ?busy, hwait, State.busy_microOp _ _ _, rfl, ?lines, ?viol, ?txnOpen, ?trace⟩
  case busy => simp [State.busy_acceptInstr, hops]
  case lines => simp [lineEffect]
  case viol => simp [breaksDataStability, addMark, hmark]
  case txnOpen => simpa using hpost
  case trace => simp

end Sys2Proof.Machine
end

section
/-! SEND_BYTE and SEND_REGISTER (spec/41_serial_transmit.md): both are bit-cycles, most significant bit first, so their
counts and the lines they leave follow from one bit-cycle and, for SEND_REGISTER, from the latch tail. -/

namespace Sys2Proof.Machine

/-! ### The accepts (R96, R104) -/

theorem addMark_outsideTxn (V : Violations) (txnOpen : Bool) :
    addMark V (if txnOpen then none else some .outsideTxn) = if txnOpen then V else { V with outsideTxn := true } := by
  cases txnOpen <;> rfl

/-- Settles O9: the protocol check is that of `protocolMark`, and the sequence is `expandSendByte`'s eight bit-cycles. -/
theorem sendByteAccept : Obligations.SendByteAccept := by
  intro v s
  rw [exec_of_wellFormed (i := .sendByte v) rfl, protocolMark, addMark_outsideTxn]
  rfl

/-- A byte of a word is sent as bit-cycles of the word's own bits (R105). -/
theorem expandSendByte_byteAt (w : Word) (j : Nat) :
    expandSendByte (byteAt w j) = [7, 6, 5, 4, 3, 2, 1, 0].flatMap (fun i => bitCycle (w.getLsbD (j + i))) := by
  rw [expandSendByte, bitsMsbFirst_byteAt, List.flatMap_map]
  rfl

/-- Settles O10: the bytes at offsets 24, 16, 8 and 0 are read off the word's own bits. -/
theorem sendRegisterAccept : Obligations.SendRegisterAccept := by
  intro w s
  have hseq : expand s.profiles (.sendRegister w) = [24, 16, 8, 0].flatMap (fun j =>
      [7, 6, 5, 4, 3, 2, 1, 0].flatMap (fun i => bitCycle (w.getLsbD (j + i)))) ++ latchTail := by
    simp only [← expandSendByte_byteAt]
    rfl
  rw [exec_of_wellFormed (i := .sendRegister w) rfl, protocolMark, addMark_outsideTxn, hseq]
  rfl

/-! ### Counts of Drives (R99, R107) -/

theorem countP_bitCycles {p : MicroOp → Bool} {c : Nat} (hcycle : ∀ b, (bitCycle b).countP p = c) (bits : List Bool) :
    (bits.flatMap bitCycle).countP p = bits.length * c := by
  simp [List.countP_flatMap, Function.comp_def, hcycle]

theorem countP_sendByte {p : MicroOp → Bool} {c : Nat} (hcycle : ∀ b, (bitCycle b).countP p = c) (v : Byte) :
    (expandSendByte v).countP p = 8 * c := by
  rw [expandSendByte_eq, countP_bitCycles hcycle, length_lowBits]

theorem countP_sendRegister {p : MicroOp → Bool} {c d : Nat} (hcycle : ∀ b, (bitCycle b).countP p = c)
    (htail : latchTail.countP p = d) (w : Word) : (expandSendRegister w).countP p = 32 * c + d := by
  rw [expandSendRegister_eq, List.countP_append, countP_bitCycles hcycle, length_lowBits, htail]

/-! ### Waits (R99, R107) -/

theorem waitsOf_append (ops ops' : List MicroOp) : waitsOf (ops ++ ops') = waitsOf ops ++ waitsOf ops' := by
  induction ops with
  | nil => rfl
  | cons m ops ih =>
    cases m with
    | drive sig l => exact ih
    | wait k => exact congrArg (k :: ·) ih

/-- The waits of a bit-cycle, whatever its bit (R97). -/
def bitCycleWaits : List WaitKind := [.setup, .pulse, .hold]

theorem waitsOf_bitCycle (b : Bool) : waitsOf (bitCycle b) = bitCycleWaits := rfl

theorem waitsOf_bitCycles (bits : List Bool) :
    waitsOf (bits.flatMap bitCycle) = (List.replicate bits.length bitCycleWaits).flatten := by
  induction bits with
  | nil => rfl
  | cons b bits ih =>
    rw [List.flatMap_cons, waitsOf_append, waitsOf_bitCycle, ih]
    rfl

theorem length_waitsOf_bitCycles (bits : List Bool) : (waitsOf (bits.flatMap bitCycle)).length = bits.length * 3 := by
  rw [waitsOf_bitCycles, List.length_flatten, List.map_replicate, List.sum_replicate, smul_eq_mul]
  rfl

theorem count_waitsOf_bitCycles (k : WaitKind) (bits : List Bool) :
    (waitsOf (bits.flatMap bitCycle)).count k = bits.length * bitCycleWaits.count k := by
  rw [waitsOf_bitCycles, List.count_flatten, List.map_replicate, List.sum_replicate, smul_eq_mul]

theorem length_waitsOf_sendByte (v : Byte) : (waitsOf (expandSendByte v)).length = 24 := by
  rw [expandSendByte_eq, length_waitsOf_bitCycles, length_lowBits]

theorem count_waitsOf_sendByte (k : WaitKind) (v : Byte) :
    (waitsOf (expandSendByte v)).count k = 8 * bitCycleWaits.count k := by
  rw [expandSendByte_eq, count_waitsOf_bitCycles, length_lowBits]

theorem length_waitsOf_sendRegister (w : Word) : (waitsOf (expandSendRegister w)).length = 99 := by
  rw [expandSendRegister_eq, waitsOf_append, List.length_append, length_waitsOf_bitCycles, length_lowBits]
  rfl

theorem count_waitsOf_sendRegister (k : WaitKind) (w : Word) : (waitsOf (expandSendRegister w)).count k
    = 32 * bitCycleWaits.count k + [WaitKind.short, .latch, .short].count k := by
  rw [expandSendRegister_eq, waitsOf_append, List.count_append, count_waitsOf_bitCycles, length_lowBits]
  rfl

/-! ### Rising edges of CLOCK (R99, R107) -/

theorem risingEdges_append (L : Lines) (ops ops' : List MicroOp) :
    risingEdges L (ops ++ ops') = risingEdges L ops + risingEdges (linesAfter L ops) ops' := by
  induction ops generalizing L with
  | nil => exact (Nat.zero_add _).symm
  | cons m ops ih =>
    rcases m with ⟨_ | _ | _ | _, _ | _⟩ | _
    case drive.clock.high =>
      rw [List.cons_append, risingEdges, ih, ← Nat.add_assoc]
      rfl
    all_goals exact ih _

/-- Each bit-cycle has one rising edge, but the first has none when it is entered with CLOCK HIGH. -/
theorem risingEdges_bitCycles (L : Lines) (bits : List Bool) :
    risingEdges L (bits.flatMap bitCycle) = (edgeBits L.clock bits).length := by
  induction bits generalizing L with
  | nil => cases L.clock <;> rfl
  | cons b bits ih =>
    have hfirst : risingEdges L (bitCycle b) = (edgeBits L.clock [b]).length := by
      cases hc : L.clock <;> simp [bitCycle, risingEdges, lineEffect, Lines.set, edgeBits, hc]
    have hlater : risingEdges (linesAfter L (bitCycle b)) (bits.flatMap bitCycle) = bits.length := ih _
    rw [List.flatMap_cons, risingEdges_append, hfirst, hlater, edgeBits_cons _ b bits, List.length_append]

theorem risingEdges_sendByte {L : Lines} (hclock : L.clock = .low) (v : Byte) : risingEdges L (expandSendByte v) = 8 := by
  rw [expandSendByte_eq, risingEdges_bitCycles, hclock]
  rfl

theorem risingEdges_sendRegister {L : Lines} (hclock : L.clock = .low) (w : Word) :
    risingEdges L (expandSendRegister w) = 32 := by
  have htail : risingEdges (linesAfter L ((lowBits 32 w).flatMap bitCycle)) latchTail = 0 := rfl
  rw [expandSendRegister_eq, risingEdges_append, risingEdges_bitCycles, htail, hclock]
  exact length_lowBits 32 w

/-! ### The counts, put together -/

/-- Settles O45: eight times the counts of a bit-cycle. -/
theorem sendByteCounts : Obligations.SendByteCounts := by
  intro v L
  refine ⟨?drives, ?ofData, ?ofClock, length_waitsOf_sendByte v, count_waitsOf_sendByte .setup v,
    count_waitsOf_sendByte .pulse v, count_waitsOf_sendByte .hold v, fun hclock => risingEdges_sendByte hclock v⟩
  case drives => exact countP_sendByte (c := 3) (by decide) v
  case ofData => exact countP_sendByte (c := 1) (by decide) v
  case ofClock => exact countP_sendByte (c := 2) (by decide) v

/-- Settles O46: thirty-two times the counts of a bit-cycle, and those of the latch tail. -/
theorem sendRegisterCounts : Obligations.SendRegisterCounts := by
  intro w L
  refine ⟨?drives, ?ofData, ?ofClock, ?ofLatch, length_waitsOf_sendRegister w, count_waitsOf_sendRegister .setup w,
    count_waitsOf_sendRegister .pulse w, count_waitsOf_sendRegister .hold w, count_waitsOf_sendRegister .short w,
    count_waitsOf_sendRegister .latch w, ?raises, fun hclock => risingEdges_sendRegister hclock w⟩
  case drives => exact countP_sendRegister (c := 3) (d := 2) (by decide) (by decide) w
  case ofData => exact countP_sendRegister (c := 1) (d := 0) (by decide) (by decide) w
  case ofClock => exact countP_sendRegister (c := 2) (d := 0) (by decide) (by decide) w
  case ofLatch => exact countP_sendRegister (c := 0) (d := 2) (by decide) (by decide) w
  case raises => exact countP_sendRegister (c := 0) (d := 1) (by decide) (by decide) w

/-! ### The end states (R98, R108) -/

/-- The state after the whole sequence of a legal command. -/
theorem exists_end_of_runs {s : State} {i : Instr} (hs : s.Runs i) :
    ∃ t, runFor (s.stepsOf i) s = .next t ∧ t.busy = false ∧ t.lines = linesAfter s.lines (expand s.profiles i) ∧
      t.txnOpen = postTxn s.txnOpen i := by
  refine ⟨_, runFor_of_runs hs le_rfl, ?busy, ?lines, rfl⟩
  case busy => simp [State.busy, State.afterOps]
  case lines => simp [State.afterOps]

/-- The last bit-cycle, that of bit 0, decides DATA; CLOCK ends LOW in each. -/
theorem linesAfter_lowBits (n : Nat) {k : Nat} (x : BitVec k) (L : Lines) :
    linesAfter L ((lowBits (n + 1) x).flatMap bitCycle) = { L with data := bitLevel (x.getLsbD 0), clock := .low } := by
  induction n generalizing L with
  | zero => rfl
  | succ n ih =>
    rw [lowBits_succ, List.flatMap_cons, linesAfter_append, ih]
    rfl

theorem linesAfter_sendByte (L : Lines) (v : Byte) :
    linesAfter L (expandSendByte v) = { L with data := bitLevel (v.getLsbD 0), clock := .low } :=
  linesAfter_lowBits 7 v L

theorem linesAfter_sendRegister (L : Lines) (w : Word) : linesAfter L (expandSendRegister w)
    = { L with data := bitLevel (w.getLsbD 0), clock := .low, latchEnable := .low } := by
  rw [expandSendRegister_eq, linesAfter_append, linesAfter_lowBits]
  rfl

/-- Settles O38. -/
theorem sendByteEndState : Obligations.SendByteEndState := by
  intro s v hs
  obtain ⟨t, hrun, hbusy, hlines, -⟩ := exists_end_of_runs hs
  rw [expand, linesAfter_sendByte] at hlines
  refine ⟨t, hrun, hbusy, ?_⟩
  simp [hlines]

/-- Settles O39. -/
theorem sendRegisterEndState : Obligations.SendRegisterEndState := by
  intro s w hs
  obtain ⟨t, hrun, hbusy, hlines, -⟩ := exists_end_of_runs hs
  rw [stepsOf_sendRegister] at hrun
  rw [expand, linesAfter_sendRegister] at hlines
  refine ⟨t, hrun, hbusy, ?_⟩
  simp [hlines]

end Sys2Proof.Machine
end

section
/-! The Transaction Bracket (spec/42_transaction.md): OPEN_TXN and CLOSE_TXN drive their lines to fixed levels whatever those
were, and OPEN_TXN raises LATCH_ENABLE while CHIP_SELECT is HIGH, so the pulse it makes commits nothing. -/

namespace Sys2Proof.Machine

/-! ### The accepts (R114, R120) -/

theorem addMark_nest (V : Violations) (txnOpen : Bool) :
    addMark V (if txnOpen then some .nest else none) = if txnOpen then { V with nest := true } else V := by
  cases txnOpen <;> rfl

theorem addMark_closeIdle (V : Violations) (txnOpen : Bool) :
    addMark V (if txnOpen then none else some .closeIdle) = if txnOpen then V else { V with closeIdle := true } := by
  cases txnOpen <;> rfl

/-- Settles O11: the protocol check is that of `protocolMark`, and the sequence is `expandOpenTxn`. -/
theorem openTxnAccept : Obligations.OpenTxnAccept := by
  intro s
  rw [exec_of_wellFormed (i := .openTxn) rfl, protocolMark, addMark_nest]
  rfl

/-- Settles O12: the protocol check is that of `protocolMark`, and the sequence is `expandCloseTxn`. -/
theorem closeTxnAccept : Obligations.CloseTxnAccept := by
  intro s
  rw [exec_of_wellFormed (i := .closeTxn) rfl, protocolMark, addMark_closeIdle]
  rfl

/-! ### The end states (R115, R121) -/

theorem linesAfter_openTxn (L : Lines) :
    linesAfter L expandOpenTxn = { data := .low, clock := .low, latchEnable := .low, chipSelect := .low } := rfl

theorem linesAfter_closeTxn (L : Lines) :
    linesAfter L expandCloseTxn = { L with data := .low, clock := .low, chipSelect := .high } := rfl

/-- Settles O40: OPEN_TXN drives all four lines, each LOW in the end. -/
theorem openTxnEndState : Obligations.OpenTxnEndState := by
  intro s hs
  obtain ⟨t, hrun, hbusy, hlines, htxn⟩ := exists_end_of_runs hs
  rw [expand, linesAfter_openTxn] at hlines
  exact ⟨t, hrun, hbusy, by simp [hlines, htxn, postTxn]⟩

/-- Settles O41: CLOSE_TXN drives every line but LATCH_ENABLE. -/
theorem closeTxnEndState : Obligations.CloseTxnEndState := by
  intro s hs
  obtain ⟨t, hrun, hbusy, hlines, htxn⟩ := exists_end_of_runs hs
  rw [expand, linesAfter_closeTxn] at hlines
  exact ⟨t, hrun, hbusy, by simp [hlines, htxn, postTxn]⟩

/-! ### OPEN_TXN's own latch pulse (R119) -/

/-- Entered with LATCH_ENABLE LOW, the open bracket makes one pulse, of the window as it is, with CHIP_SELECT HIGH at its
rising event; CLOCK is only driven LOW, so nothing is sampled. -/
theorem Observer.afterOps_openTxn_low {o : Observer} (h : o.lines.latchEnable = .low) :
    o.afterOps expandOpenTxn = { o with
      lines := linesAfter o.lines expandOpenTxn
      window := []
      rising := none
      pulses := o.pulses ++ [{ samples := o.window, chipSelect := .high }] } := by
  simp [expandOpenTxn, Observer.afterOps, Observer.next, Observer.sees, Observer.latchHigh, Observer.latchLow, linesAfter,
    lineEffect, Lines.set, h]

/-- Settles O52: the pulse rose with CHIP_SELECT HIGH, so it is not clean and gives no word. -/
theorem openTxnCommitsNothing : Obligations.OpenTxnCommitsNothing := by
  intro s t hagrees hs ht hlatch
  obtain ⟨hobs, -⟩ := observe_of_runs hs ht
  rw [expand, Observer.afterOps_openTxn_low (hagrees.observe_lines ▸ hlatch)] at hobs
  have hpulses : latchPulses t.trace =
      latchPulses s.trace ++ [{ samples := (observe s.trace).window, chipSelect := .high }] :=
    congrArg Observer.pulses hobs
  have hunclean : LatchPulse.clean { samples := (observe s.trace).window, chipSelect := .high } = false :=
    not_clean_of_chipSelect_high rfl
  refine ⟨⟨_, hpulses, hunclean⟩, ?committed, ?sampled, ?window⟩
  case committed => rw [committed, hpulses, cleanWords_append_unclean _ hunclean, ← committed]
  case sampled => rw [sampled, hobs, sampled]
  case window => rw [hobs]

end Sys2Proof.Machine
end

section
/-! APPLY_PROFILE (spec/43_profile_sequencer.md): a bracket around six registers. The open bracket leaves CLOCK,
LATCH_ENABLE and CHIP_SELECT LOW, each register keeps them LOW, and so what the registers do follows from what one register
does there. -/

namespace Sys2Proof.Machine

/-! ### The sequence (R128, R129) -/

/-- The words sent after register 5's settle. -/
def laterWords (p : Profile) : List Word := [p.reg4, p.reg3, p.reg2, p.reg1, p.reg0]

theorem expandApplyProfile_eq (p : Profile) :
    expandApplyProfile p = expandOpenTxn ++ (expandSendRegister p.reg5 ++ ([MicroOp.wait .reg5Settle]
      ++ ((laterWords p).flatMap expandSendRegister ++ (expandCloseTxn ++ [MicroOp.wait .postSettle])))) := rfl

theorem expand_applyProfile {store : List Profile} {k : Byte} {p : Profile} (h : store[k.toNat]? = some p) :
    expand store (.applyProfile k) = expandApplyProfile p := by
  have hp : storeProfile store k = some p := h
  rw [expand, hp]
  rfl

theorem wellFormed_applyProfile {store : List Profile} {k : Byte} {p : Profile} (h : store[k.toNat]? = some p) :
    (Instr.applyProfile k).wellFormed store.length = true := by
  obtain ⟨hk, -⟩ := List.getElem?_eq_some_iff.mp h
  exact decide_eq_true hk

/-- An APPLY_PROFILE that runs names a profile of the store, and its sequence is that profile's. -/
theorem State.Runs.exists_profile {s : State} {k : Byte} (hs : s.Runs (.applyProfile k)) :
    ∃ p, expand s.profiles (.applyProfile k) = expandApplyProfile p := by
  obtain ⟨-, hk, -⟩ := hs
  obtain ⟨p, hp⟩ := storeProfile_of_wellFormed hk
  exact ⟨p, expand_applyProfile hp⟩

theorem State.Runs.stepsOf_applyProfile {s : State} {k : Byte} (hs : s.Runs (.applyProfile k)) :
    s.stepsOf (.applyProfile k) = 1203 := by
  obtain ⟨p, hops⟩ := hs.exists_profile
  rw [State.stepsOf, hops, expandApplyProfile_length]

/-! ### The accept (R128, R152) -/

/-- Settles O13: the protocol check is that of `protocolMark`, and the sequence is the named profile's. -/
theorem applyProfileAccept : Obligations.ApplyProfileAccept := by
  intro k p s hp
  rw [exec_of_wellFormed (wellFormed_applyProfile hp), protocolMark, addMark_nest, expand_applyProfile hp,
    expandApplyProfile_eq]
  simp [laterWords, postTxn]

/-- Settles O14: the store holds no profile at the index, so the accept is IllegalCommand. -/
theorem applyProfileOutOfRangeIllegal : Obligations.ApplyProfileOutOfRangeIllegal := by
  intro k s hk
  have hnone : storeProfile s.profiles k = none := List.getElem?_eq_none hk
  simp only [exec, execApplyProfile, hnone, State.raiseIllegal_eq]

/-! ### The lines between the brackets -/

/-- The levels between the brackets: the open bracket leaves them (R115), and every register keeps them (R108). -/
structure Lines.Inside (L : Lines) : Prop where
  clock : L.clock = .low
  latchEnable : L.latchEnable = .low
  chipSelect : L.chipSelect = .low

theorem linesAfter_wait (L : Lines) (k : WaitKind) : linesAfter L [.wait k] = L := rfl

theorem inside_openTxn (L : Lines) : (linesAfter L expandOpenTxn).Inside := ⟨rfl, rfl, rfl⟩

theorem Lines.Inside.sendRegister {L : Lines} (h : L.Inside) (w : Word) : (linesAfter L (expandSendRegister w)).Inside := by
  rw [linesAfter_sendRegister]
  exact ⟨rfl, rfl, h.chipSelect⟩

theorem Lines.Inside.sendRegisters {L : Lines} (h : L.Inside) (ws : List Word) :
    (linesAfter L (ws.flatMap expandSendRegister)).Inside := by
  induction ws generalizing L with
  | nil => exact h
  | cons w ws ih =>
    rw [List.flatMap_cons, linesAfter_append]
    exact ih (h.sendRegister w)

/-! ### The end state (R131) -/

/-- The close bracket drives every line but LATCH_ENABLE, which the registers leave LOW. -/
theorem linesAfter_applyProfile (L : Lines) (p : Profile) : linesAfter L (expandApplyProfile p) = Lines.idle := by
  have hinside := ((inside_openTxn L).sendRegister p.reg5).sendRegisters (laterWords p)
  rw [expandApplyProfile_eq, linesAfter_append, linesAfter_append, linesAfter_append, linesAfter_append, linesAfter_append,
    linesAfter_wait, linesAfter_wait, linesAfter_closeTxn, hinside.latchEnable]
  rfl

/-- Settles O42: the lines are driven to idle from every levels. -/
theorem applyProfileEndState : Obligations.ApplyProfileEndState := by
  intro s k hs
  obtain ⟨p, hops⟩ := hs.exists_profile
  obtain ⟨t, hrun, hbusy, hlines, htxn⟩ := exists_end_of_runs hs
  rw [hs.stepsOf_applyProfile] at hrun
  rw [hops, linesAfter_applyProfile] at hlines
  exact ⟨t, hrun, hbusy, hlines, htxn⟩

/-! ### The same profile twice (R137) -/

/-- The events of a whole legal command: a function of the command and the store alone (R45). -/
def commandEvents (store : List Profile) (i : Instr) : List Event := .accept (encode i) :: (expand store i).map Event.op

theorem State.Runs.length_commandEvents {s : State} {k : Byte} (hs : s.Runs (.applyProfile k)) :
    (commandEvents s.profiles (.applyProfile k)).length = 1203 := by
  obtain ⟨p, hops⟩ := hs.exists_profile
  rw [commandEvents, hops, List.length_cons, List.length_map, expandApplyProfile_length]

theorem trace_of_runs {s t : State} {i : Instr} (hs : s.Runs i) (ht : runFor (s.stepsOf i) s = .next t) :
    t.trace = s.trace ++ commandEvents s.profiles i ∧ t.profiles = s.profiles := by
  have hu := runFor_of_runs hs le_rfl
  cases hu.symm.trans ht
  refine ⟨?trace, rfl⟩
  case trace => simp [State.trace, State.afterOps, State.acceptInstr, commandEvents]

/-- Settles O43: both runs append the command's events, and the first run leaves the store. -/
theorem profileTwiceSameEvents : Obligations.ProfileTwiceSameEvents := by
  intro s t u k hs hst ht htu
  obtain ⟨htrace, hstore⟩ := trace_of_runs hs (hs.stepsOf_applyProfile ▸ hst)
  obtain ⟨hutrace, -⟩ := trace_of_runs ht (ht.stepsOf_applyProfile ▸ htu)
  exact ⟨_, hs.length_commandEvents, htrace, by rw [hutrace, htrace, hstore]⟩

/-! ### Positions (R132) -/

/-- The sequence in its parts. -/
def profileParts (p : Profile) : List (List MicroOp) :=
  [expandOpenTxn, expandSendRegister p.reg5, [.wait .reg5Settle], expandSendRegister p.reg4, expandSendRegister p.reg3,
    expandSendRegister p.reg2, expandSendRegister p.reg1, expandSendRegister p.reg0, expandCloseTxn, [.wait .postSettle]]

/-- How many micro-ops each part has. -/
def profilePartLengths : List Nat := [12, 197, 1, 197, 197, 197, 197, 197, 6, 1]

theorem flatten_profileParts (p : Profile) : (profileParts p).flatten = expandApplyProfile p := by
  simp [profileParts, expandApplyProfile_eq, laterWords]

theorem map_length_profileParts (p : Profile) : (profileParts p).map List.length = profilePartLengths := by
  simp [profileParts, profilePartLengths, expandSendRegister_length, expandOpenTxn, expandCloseTxn]

/-- A part stands behind the parts before it. -/
theorem drop_applyProfile (p : Profile) (i : Nat) :
    (expandApplyProfile p).drop (profilePartLengths.take i).sum = ((profileParts p).drop i).flatten := by
  rw [← flatten_profileParts, ← map_length_profileParts, List.drop_sum_flatten]

theorem take_drop_applyProfile (p : Profile) {i n : Nat} {part : List MicroOp} (hpart : (profileParts p)[i]? = some part)
    (hn : part.length = n) : ((expandApplyProfile p).drop (profilePartLengths.take i).sum).take n = part := by
  obtain ⟨hi, rfl⟩ := List.getElem?_eq_some_iff.mp hpart
  rw [drop_applyProfile, List.drop_eq_getElem_cons hi, List.flatten_cons, List.take_left' hn]

/-! ### Counts (R132) -/

theorem countP_applyProfile {q : MicroOp → Bool} {c : Nat} (hregister : ∀ w, (expandSendRegister w).countP q = c)
    (p : Profile) : (expandApplyProfile p).countP q
      = expandOpenTxn.countP q + 6 * c + (expandCloseTxn ++ [MicroOp.wait .reg5Settle, .wait .postSettle]).countP q := by
  simp only [expandApplyProfile_eq, laterWords, List.countP_append, List.flatMap_cons, List.flatMap_nil, hregister,
    List.countP_cons, List.countP_nil]
  omega

theorem length_waitsOf_applyProfile (p : Profile) : (waitsOf (expandApplyProfile p)).length = 605 := by
  have hopen : (waitsOf expandOpenTxn).length = 6 := rfl
  have hclose : (waitsOf expandCloseTxn).length = 3 := rfl
  simp [expandApplyProfile_eq, laterWords, waitsOf_append, waitsOf, length_waitsOf_sendRegister, hopen, hclose]

theorem risingEdges_sendRegisters {L : Lines} (h : L.Inside) (ws : List Word) :
    risingEdges L (ws.flatMap expandSendRegister) = ws.length * 32 := by
  induction ws generalizing L with
  | nil => rfl
  | cons w ws ih =>
    rw [List.flatMap_cons, risingEdges_append, risingEdges_sendRegister h.clock, ih (h.sendRegister w), List.length_cons]
    omega

/-- Only the registers raise CLOCK, and each is entered with it LOW. -/
theorem risingEdges_applyProfile (L : Lines) (p : Profile) : risingEdges L (expandApplyProfile p) = 192 := by
  have hopen : risingEdges L expandOpenTxn = 0 := rfl
  have hwait : ∀ L k, risingEdges L [.wait k] = 0 := fun _ _ => rfl
  have hclose : ∀ L, risingEdges L expandCloseTxn = 0 := fun _ => rfl
  have hinside := inside_openTxn L
  have hfirst := risingEdges_sendRegister hinside.clock p.reg5
  have hlater := risingEdges_sendRegisters (hinside.sendRegister p.reg5) (laterWords p)
  have hcount : (laterWords p).length = 5 := rfl
  simp only [expandApplyProfile_eq, risingEdges_append, hopen, hwait, hclose, linesAfter_wait, hfirst, hlater, hcount]

/-- Settles O47: the parts have the lengths of `profilePartLengths`, and the counts are the brackets' and six times a
register's. -/
theorem applyProfilePositions : Obligations.ApplyProfilePositions := by
  intro p L
  have hlen : ∀ w, (expandSendRegister w).length = 197 := expandSendRegister_length
  refine ⟨expandApplyProfile_length p, take_drop_applyProfile p (i := 0) rfl rfl,
    take_drop_applyProfile p (i := 1) rfl (hlen _), ?settle, take_drop_applyProfile p (i := 3) rfl (hlen _),
    take_drop_applyProfile p (i := 4) rfl (hlen _), take_drop_applyProfile p (i := 5) rfl (hlen _),
    take_drop_applyProfile p (i := 6) rfl (hlen _), take_drop_applyProfile p (i := 7) rfl (hlen _),
    take_drop_applyProfile p (i := 8) rfl rfl, drop_applyProfile p 9, ?drives, length_waitsOf_applyProfile p, ?raises,
    risingEdges_applyProfile L p⟩
  case settle =>
    have hdrop : (expandApplyProfile p).drop 209 = ((profileParts p).drop 2).flatten := drop_applyProfile p 2
    rw [← List.head?_drop, hdrop]
    rfl
  case drives =>
    rw [countP_applyProfile fun w => countP_sendRegister (c := 3) (d := 2) (by decide) (by decide) w]
    rfl
  case raises =>
    rw [List.count, countP_applyProfile fun w => countP_sendRegister (c := 0) (d := 1) (by decide) (by decide) w]
    rfl

/-! ### What the target observer receives (R133) -/

/-- The pulse of a register sent between the brackets, after a window of bits. -/
def insidePulse (window : List Sample) (w : Word) : LatchPulse where
  samples := window ++ samplesAt .low (lowBits 32 w)
  chipSelect := .low

/-- The pulse is clean exactly if the register's 32 bits are the only ones of its window. -/
theorem clean_insidePulse_iff (window : List Sample) (w : Word) : (insidePulse window w).clean = true ↔ window = [] := by
  constructor
  · intro h
    have hlen : window.length + 32 = 32 := by
      simp only [LatchPulse.clean, insidePulse, Bool.and_eq_true, beq_iff_eq] at h
      obtain ⟨⟨hlen, -⟩, -⟩ := h
      simpa [samplesAt, length_lowBits] using hlen
    exact List.length_eq_zero_iff.mp (by omega)
  · rintro rfl
    exact (clean_and_word_of_samples rfl rfl).1

theorem word_insidePulse (w : Word) : (insidePulse [] w).word = w := (clean_and_word_of_samples rfl rfl).2

theorem all_clean_insidePulses (ws : List Word) : (ws.map (insidePulse [])).all LatchPulse.clean = true := by
  simp [clean_insidePulse_iff]

theorem map_word_insidePulses (ws : List Word) : (ws.map (insidePulse [])).map LatchPulse.word = ws := by
  simp [Function.comp_def, word_insidePulse]

theorem cleanWords_append_insidePulses (ps : List LatchPulse) (ws : List Word) :
    cleanWords (ps ++ ws.map (insidePulse [])) = cleanWords ps ++ ws := by
  have hfilter : (ws.map (insidePulse [])).filter LatchPulse.clean = ws.map (insidePulse []) :=
    List.filter_eq_self.mpr (List.all_eq_true.mp (all_clean_insidePulses ws))
  rw [cleanWords, List.filter_append, List.map_append, hfilter, map_word_insidePulses, cleanWords]

theorem Observer.afterOps_lines (o : Observer) (ops : List MicroOp) :
    (o.afterOps ops).lines = linesAfter o.lines ops :=
  (List.foldl_hom Observer.lines fun o m => (o.next_lines (.op m)).symm).symm

/-- A register sent between the brackets stays between them, closes its window and makes its pulse. -/
theorem Observer.afterOps_sendRegister_inside {o : Observer} (h : o.lines.Inside) (w : Word) :
    (o.afterOps (expandSendRegister w)).lines.Inside ∧ (o.afterOps (expandSendRegister w)).window = [] ∧
      (o.afterOps (expandSendRegister w)).pulses = o.pulses ++ [insidePulse o.window w] := by
  refine ⟨?lines, ?window, ?pulses⟩
  case lines =>
    rw [Observer.afterOps_lines]
    exact h.sendRegister w
  case window => rw [Observer.afterOps_sendRegister_low h.latchEnable]
  case pulses =>
    rw [Observer.afterOps_sendRegister_low h.latchEnable, h.clock, h.chipSelect]
    rfl

theorem Observer.pulses_sendRegisters_inside {o : Observer} (h : o.lines.Inside) (hwindow : o.window = [])
    (ws : List Word) :
    (o.afterOps (ws.flatMap expandSendRegister)).pulses = o.pulses ++ ws.map (insidePulse []) := by
  induction ws generalizing o with
  | nil => simp [Observer.afterOps]
  | cons w ws ih =>
    obtain ⟨hinside, hempty, hpulses⟩ := Observer.afterOps_sendRegister_inside h w
    rw [List.flatMap_cons, Observer.afterOps_append, ih hinside hempty, hpulses, hwindow]
    simp

/-- The six registers' pulses follow what the open bracket leaves; the close bracket makes none. -/
theorem Observer.pulses_applyProfile (o : Observer) (p : Profile) :
    (o.afterOps (expandApplyProfile p)).pulses = (o.afterOps expandOpenTxn).pulses
      ++ insidePulse (o.afterOps expandOpenTxn).window p.reg5 :: (laterWords p).map (insidePulse []) := by
  have hinside : (o.afterOps expandOpenTxn).lines.Inside := by
    rw [Observer.afterOps_lines]
    exact inside_openTxn o.lines
  have hwait : ∀ (o : Observer) (k : WaitKind), o.afterOps [.wait k] = o := fun _ _ => rfl
  have hclose : ∀ o : Observer, (o.afterOps expandCloseTxn).pulses = o.pulses := fun _ => rfl
  simp only [expandApplyProfile_eq, Observer.afterOps_append, hwait, hclose]
  obtain ⟨hlater, hempty, hfirst⟩ := Observer.afterOps_sendRegister_inside hinside p.reg5
  rw [Observer.pulses_sendRegisters_inside hlater hempty, hfirst]
  simp

/-- Entered with LATCH_ENABLE HIGH, the open bracket ends the pulse that has risen and keeps the window's bits. -/
theorem Observer.afterOps_openTxn_high {o : Observer} {q : LatchPulse} (h : o.lines.latchEnable = .high)
    (hq : o.rising = some q) :
    o.afterOps expandOpenTxn = { o with
      lines := linesAfter o.lines expandOpenTxn
      rising := none
      pulses := o.pulses ++ [q] } := by
  simp [expandOpenTxn, Observer.afterOps, Observer.next, Observer.sees, Observer.latchHigh, Observer.latchLow, linesAfter,
    lineEffect, Lines.set, h, hq]

/-- The pulse the open bracket makes when it is entered with LATCH_ENABLE LOW: it rises with CHIP_SELECT HIGH (R119). -/
def openPulse (window : List Sample) : LatchPulse where
  samples := window
  chipSelect := .high

theorem clean_openPulse (window : List Sample) : (openPulse window).clean = false := not_clean_of_chipSelect_high rfl

/-- Settles O53, by the level of LATCH_ENABLE at entry: it decides whether the open bracket's pulse closes the window or
ends an earlier pulse and leaves the window to register 5. -/
theorem applyProfileCommitsSixWords : Obligations.ApplyProfileCommitsSixWords := by
  intro s t k p hagrees hs hp ht
  have hlines : (observe s.trace).lines = s.lines := hagrees.observe_lines
  obtain ⟨hobs, -⟩ := observe_of_runs hs (hs.stepsOf_applyProfile ▸ ht)
  have hpulses := congrArg Observer.pulses hobs
  rw [expand_applyProfile hp, Observer.pulses_applyProfile] at hpulses
  refine ⟨fun hlatch => ?low, fun hlatch => ?high⟩
  case low =>
    rw [Observer.afterOps_openTxn_low (hlines ▸ hlatch)] at hpulses
    have hsix : latchPulses t.trace = latchPulses s.trace ++ [openPulse (observe s.trace).window]
        ++ (p.reg5 :: laterWords p).map (insidePulse []) := hpulses
    refine ⟨?committed, _, _, ?six, clean_openPulse (observe s.trace).window, rfl,
      all_clean_insidePulses (p.reg5 :: laterWords p)⟩
    case committed =>
      rw [committed, hsix, cleanWords_append_insidePulses, cleanWords_append_unclean _ (clean_openPulse _)]
      rfl
    case six => rw [hsix, List.append_assoc, List.singleton_append]
  case high =>
    obtain ⟨q, hq⟩ := Option.isSome_iff_exists.mp ((observe_risingWhileHigh s.trace).mpr (hlines ▸ hlatch))
    rw [Observer.afterOps_openTxn_high (hlines ▸ hlatch) hq] at hpulses
    refine ⟨q, insidePulse (observe s.trace).window p.reg5, (laterWords p).map (insidePulse []), ?pulses,
      (clean_insidePulse_iff _ _).mp, fun hwindow => ?register5, all_clean_insidePulses _, map_word_insidePulses _⟩
    case pulses => rw [latchPulses, hpulses, List.append_assoc, List.singleton_append, latchPulses]
    case register5 =>
      rw [hwindow]
      exact clean_and_word_of_samples rfl rfl

end Sys2Proof.Machine
end

section
/-! The host program (spec/44_host_control_loop.md): every two commands after bringup are one rotate step, which moves `hpc` on
by one modulo `length(ROTATION)`, and the host program moves in a step only when the block accepts a word or is reset. -/

namespace Sys2Proof.Machine

/-! ### Bringup (R142, R147) -/

theorem HostLoop.commands_three_of_powerUp {h : HostLoop} (hp : h.pos = .powerUp) :
    h.commands 3 = bringupUnit h.bringup := by
  simp [HostLoop.commands, HostLoop.command, HostLoop.advance, hp, bringupUnit]

theorem HostLoop.advanceBy_three_of_powerUp {h : HostLoop} (hp : h.pos = .powerUp) :
    h.advanceBy 3 = { h with pos := .rotateApply 0 } := by
  simp [HostLoop.advanceBy, HostLoop.advance, hp]

/-- Settles O54: the three commands are `bringupUnit`, after which the host program stands in ROTATE. -/
theorem hostBringupSequence : Obligations.HostBringupSequence := by
  intro h hp
  refine ⟨HostLoop.commands_three_of_powerUp hp, ?_⟩
  rw [HostLoop.advanceBy_three_of_powerUp hp]
  exact ⟨rfl, rfl⟩

/-! ### The rotation (R143, R148) -/

theorem HostLoop.advanceBy_add (m n : Nat) (h : HostLoop) : h.advanceBy (m + n) = (h.advanceBy m).advanceBy n := by
  induction m generalizing h with
  | zero => rw [Nat.zero_add, HostLoop.advanceBy]
  | succ m ih => rw [Nat.succ_add, HostLoop.advanceBy, ih, HostLoop.advanceBy]

/-- One rotate step, two commands, moves `hpc` on by one and wraps it. -/
theorem HostLoop.advanceBy_two_of_rotateApply (h : HostLoop) (k : Nat) :
    HostLoop.advanceBy 2 { h with pos := .rotateApply k } = { h with pos := .rotateApply ((k + 1) % h.rotation.length) } := rfl

theorem HostLoop.advanceBy_rotate (h : HostLoop) (n : Nat) :
    HostLoop.advanceBy (2 * n) { h with pos := .rotateApply 0 } = { h with pos := .rotateApply (n % h.rotation.length) } := by
  induction n with
  | zero => rw [Nat.mul_zero, HostLoop.advanceBy, Nat.zero_mod]
  | succ n ih => rw [Nat.mul_succ, HostLoop.advanceBy_add, ih, HostLoop.advanceBy_two_of_rotateApply, Nat.mod_add_mod]

theorem HostLoop.advanceBy_of_powerUp {h : HostLoop} (hp : h.pos = .powerUp) (n : Nat) :
    h.advanceBy (3 + 2 * n) = { h with pos := .rotateApply (n % h.rotation.length) } := by
  rw [HostLoop.advanceBy_add, HostLoop.advanceBy_three_of_powerUp hp, HostLoop.advanceBy_rotate]

theorem HostLoop.getElem?_rotation {h : HostLoop} {k : Nat} (hk : k < h.rotation.length) :
    h.rotation[k]? = some (h.rotationAt k) := by
  rw [HostLoop.rotationAt, List.getD_eq_getElem _ _ hk, List.getElem?_eq_getElem hk]

/-- Settles O55: after bringup and n rotate steps the host program stands at index `n mod length(ROTATION)`. -/
theorem hostRotationProperty : Obligations.HostRotationProperty := by
  intro h n hp
  have hk : n % h.rotation.length < h.rotation.length := Nat.mod_lt n (Nat.succ_pos _)
  rw [HostLoop.advanceBy_add (3 + 2 * n) 1, HostLoop.advanceBy_of_powerUp hp]
  exact ⟨⟨_, HostLoop.getElem?_rotation hk, rfl⟩, rfl⟩

/-! ### Launch and reset (R145, R146) -/

theorem launch_cons {bringup head : Byte} {tail : List Byte} {s : State} (hb : bringup.toNat < s.profiles.length)
    (hr : ∀ b ∈ head :: tail, b.toNat < s.profiles.length) :
    launch bringup (head :: tail) s = .next { s with
      cmdPort := none
      host := .mainLoop { bringup := bringup, rotationHead := head, rotationTail := tail, pos := .powerUp } } := by
  have hall : (head :: tail).all (indexInStore s.profiles) = true :=
    List.all_eq_true.mpr fun b hmem => decide_eq_true (hr b hmem)
  have hbringup : indexInStore s.profiles bringup = true := decide_eq_true hb
  rw [launch, hbringup, hall]
  rfl

/-- Settles O56: the empty ROTATION has a refusal of its own, and `launch_cons` gives the state of any other launch. -/
theorem launchRefusesEmptyRotation : Obligations.LaunchRefusesEmptyRotation := by
  intro bringup s
  exact ⟨rfl, fun head tail hb hr => ⟨_, _, launch_cons hb hr, rfl, rfl, rfl, rfl, rfl, rfl, rfl⟩⟩

/-- Settles O57: the reset step sets the host program back to its first place, from which it issues `bringupUnit` again. -/
theorem resetRestartsHostProgram : Obligations.ResetRestartsHostProgram := by
  intro s h hhost hr
  have hrestart : s.tick.applyReset.host = .mainLoop { h with pos := .powerUp } := by simp [hhost, HostAgent.onReset]
  have hport : s.tick.applyReset.cmdPort = none := by simp [hhost, HostAgent.portOnReset]
  exact ⟨_, _, (StepsTo.reset hr).step_eq, hrestart, rfl, HostLoop.commands_three_of_powerUp rfl, rfl, hport⟩

/-! ### The host in a step (R142, R143, R149) -/

/-- A step that accepts a word, legal or not, moves the host on and puts its next offer on the port. -/
theorem host_of_accepts {s t : State} {w : CmdWord} (hstep : step s = .next t) (ha : s.Accepts w) :
    t.host = s.host.accepted.present ∧ t.cmdPort = s.host.accepted.offer := by
  cases hd : decode s.numProfiles w with
  | some i => exact (StepsTo.legal ha hd).eq_of_step hstep ▸ ⟨rfl, rfl⟩
  | none => exact (StepsTo.illegal ha hd).eq_of_step hstep ▸ ⟨rfl, rfl⟩

/-- A step that neither resets nor accepts a word leaves the host program and its word on the port; an idle step can only put
a word on an empty port. -/
theorem mainLoop_of_not_accepts {s t : State} {h : HostLoop} (hhost : s.host = .mainLoop h) (hstep : step s = .next t)
    (hr : s.resetAsserted = false) (hna : ∀ w, ¬ s.Accepts w) :
    t.host = .mainLoop h ∧ ∀ w, s.cmdPort = some w → t.cmdPort = some w := by
  cases step_iff.mp hstep with
  | reset hr' => exact absurd hr' (by simp [hr])
  | endWait => exact ⟨hhost, fun _ hw => hw⟩
  | microOp => simp [hhost]
  | idle _ _ _ hport => simp [hhost, hport, HostAgent.present]
  | legal ha | illegal ha => exact absurd ha (hna _)

theorem State.Sound.eq_command_of_accepts {s : State} {h : HostLoop} {w : CmdWord} (hs : s.Sound)
    (hhost : s.host = .mainLoop h) (ha : s.Accepts w) : w = encode h.command := by
  have hport : s.cmdPort = some w := ha.1
  simpa [hport] using hs.hostOffer h hhost

/-- `hstate` and `hpc` stay at every place whose command is not the dwell (R142, R143). -/
theorem HostLoop.command_eq_dwellDelay_of_advance_ne {h : HostLoop}
    (hne : h.advance.pos.hstate ≠ h.pos.hstate ∨ h.advance.pos.hpc ≠ h.pos.hpc) : h.command = dwellDelay := by
  cases hp : h.pos with
  | bringupDwell | rotateDwell n => simp [HostLoop.command, hp]
  | powerUp | bringupApply | rotateApply n =>
    simp [HostLoop.advance, hp, HostPos.hstate, HostPos.hpc] at hne

/-- Settles O60: an accept advances the host program, and what that changes follows from its place. -/
theorem hostIssuesWhenAccepted : Obligations.HostIssuesWhenAccepted := by
  intro s t h hhost hr hstep
  refine ⟨fun w ha => ?_, mainLoop_of_not_accepts hhost hstep hr⟩
  obtain ⟨hnext, hport⟩ := host_of_accepts hstep ha
  rw [hhost] at hnext hport
  exact ⟨hnext, hport, fun hs => hs.eq_command_of_accepts hhost ha, HostLoop.command_eq_dwellDelay_of_advance_ne,
    fun hp => by simp [HostLoop.advance, hp], fun n hp => by simp [HostLoop.advance, hp]⟩

end Sys2Proof.Machine
end

section
/-! The one exception (spec/60_exceptions.md): which sub-cause an illegal word has (R153, R160), and what its accept does
(R152, R158). -/

namespace Sys2Proof

/-! ### The sub-causes of a word (R153, R160) -/

theorem badOpcode_of_not_legal_opcode {op : BitVec 8} (h1 : op ≠ 0x01#8) (h2 : op ≠ 0x02#8) (h3 : op ≠ 0x03#8)
    (h4 : op ≠ 0x04#8) (h5 : op ≠ 0x05#8) (h6 : op ≠ 0x06#8) (h7 : op ≠ 0x07#8) (h8 : op ≠ 0x08#8) :
    op = 0x00#8 ∨ 0x09#8 ≤ op := by bv_omega

/-- The must-be-zero bits of a word, by its opcode (R65, R77). -/
theorem reservedSet_iff (w : CmdWord) : reservedSet w = true ↔
    (opField w = 0x01#8 ∧ reservedS w ≠ 0#29) ∨ (opField w = 0x02#8 ∧ reservedB w ≠ 0#24) ∨
    (opField w = 0x04#8 ∧ argField w ≠ 0#32) ∨ (opField w = 0x05#8 ∧ argField w ≠ 0#32) ∨
    (opField w = 0x06#8 ∧ reservedB w ≠ 0#24) := by
  unfold reservedSet
  split <;> simp_all

theorem not_badOpcode_of_reservedSet {w : CmdWord} (h : reservedSet w = true) :
    ¬(opField w = 0x00#8 ∨ 0x09#8 ≤ opField w) := by
  rcases (reservedSet_iff w).mp h with ⟨hop, _⟩ | ⟨hop, _⟩ | ⟨hop, _⟩ | ⟨hop, _⟩ | ⟨hop, _⟩ <;> rw [hop] <;> decide

theorem illegalCause_eq_badOpcode_iff (n : Nat) (w : CmdWord) :
    illegalCause n w = some .badOpcode ↔ (opField w = 0x00#8 ∨ 0x09#8 ≤ opField w) := by
  refine ⟨fun h => ?_, fun hbad => by rw [illegalCause, if_pos hbad]⟩
  by_contra hbad
  unfold illegalCause at h
  split_ifs at h <;> cases h

/-- A must-be-zero bit belongs to a legal opcode, so 1.1 never hides 1.2. -/
theorem illegalCause_eq_reservedBits_iff (n : Nat) (w : CmdWord) :
    illegalCause n w = some .reservedBits ↔ reservedSet w = true := by
  refine ⟨fun h => ?_, fun hset => by rw [illegalCause, if_neg (not_badOpcode_of_reservedSet hset), if_pos hset]⟩
  by_contra hset
  unfold illegalCause at h
  split_ifs at h <;> cases h

/-- APPLY_PROFILE's two checks, in their order (R160). -/
theorem illegalCause_of_applyProfile (n : Nat) {w : CmdWord} (hop : opField w = 0x06#8) :
    illegalCause n w = if reservedB w = 0#24 then if n ≤ (byteField w).toNat then some .indexOutOfRange else none
      else some .reservedBits := by
  simp [illegalCause, reservedSet, hop]

theorem opField_of_indexOutOfRange {n : Nat} {w : CmdWord} (h : illegalCause n w = some .indexOutOfRange) :
    opField w = 0x06#8 := by
  by_contra hop
  have hindex : ¬(opField w = 0x06#8 ∧ n ≤ (byteField w).toNat) := fun ⟨hop', _⟩ => hop hop'
  unfold illegalCause at h
  split_ifs at h <;> cases h

theorem illegalCause_eq_indexOutOfRange_iff (n : Nat) (w : CmdWord) :
    illegalCause n w = some .indexOutOfRange ↔
      opField w = 0x06#8 ∧ reservedB w = 0#24 ∧ n ≤ (byteField w).toNat := by
  refine ⟨fun h => ⟨opField_of_indexOutOfRange h, ?_⟩, fun ⟨hop, hzero, hindex⟩ => ?_⟩
  · rw [illegalCause_of_applyProfile n (opField_of_indexOutOfRange h)] at h
    split_ifs at h with hzero hindex
    · exact ⟨hzero, hindex⟩
    · cases h
  · rw [illegalCause_of_applyProfile n hop, if_pos hzero, if_pos hindex]

/-- Row by row of the decoder: what a row checks is what `illegalCause` asks of its opcode, and every other opcode is
bad. -/
theorem illegalCause_eq_none_iff (n : Nat) (w : CmdWord) : illegalCause n w = none ↔ ∃ i, decode n w = some i := by
  unfold decode
  split
  case h_1 hop | h_2 hop | h_3 hop | h_4 hop | h_5 hop | h_7 hop | h_8 hop => simp [illegalCause, reservedSet, hop]
  case h_6 hop =>
    rw [illegalCause_of_applyProfile n hop]
    by_cases hzero : reservedB w = 0#24 <;> simp [hzero]
  case h_9 h1 h2 h3 h4 h5 h6 h7 h8 =>
    simp [illegalCause, badOpcode_of_not_legal_opcode h1 h2 h3 h4 h5 h6 h7 h8]

/-- Settles O3: the sub-causes as the field functions give them, read off the two fields of the word; SEND_REGISTER and the
delays take every operand, so their words decode. -/
theorem illegalCauseClassifies : Obligations.IllegalCauseClassifies := by
  refine fun n op arg => ⟨illegalCause_eq_none_iff n _, ?bad, ?reserved, ?index, ?never⟩
  case bad => rw [illegalCause_eq_badOpcode_iff, opField_word]
  case reserved => rw [illegalCause_eq_reservedBits_iff, reservedSet_iff, reservedS, reservedB, opField_word, argField_word]
  case index => rw [illegalCause_eq_indexOutOfRange_iff, reservedB, byteField, opField_word, argField_word]
  case never =>
    rw [illegalCause_eq_none_iff]
    rintro (rfl | rfl | rfl)
    · exact ⟨_, decode_encode (i := .sendRegister arg) rfl⟩
    · exact ⟨_, decode_encode (i := .delayUs arg) rfl⟩
    · exact ⟨_, decode_encode (i := .delayMs arg) rfl⟩

end Sys2Proof

namespace Sys2Proof.Machine

/-! ### IllegalCommand (R152, R158) -/

/-- Settles O16: a word that is not legal does not decode, so its accept is `State.raiseIllegal`, which leaves SEQ empty. -/
theorem illegalWordTakesIllegalCommand : Obligations.IllegalWordTakesIllegalCommand := by
  intro s w ha hlegal
  have hd : decode s.numProfiles w = none := (decodeTotalAndEncodeInverts _ w).1.mpr hlegal
  have hready : s.cmdReady = true := by
    obtain ⟨_, hbusy, _, _⟩ := ha
    simp [State.cmdReady, hbusy]
  exact ⟨s.tick.takeOffer.raiseIllegal w, step_of_illegal ha hd, rfl, hready⟩

end Sys2Proof.Machine
end

section
/-! Reset (spec/70_reset_and_hazards.md R171, R172): the reset step from every state, and a reset that cuts a command off after
some of its micro-ops. -/

namespace Sys2Proof.Machine

/-! ### The reset step (R171) -/

@[simp] theorem State.busy_applyReset (s : State) : s.applyReset.busy = false := rfl

/-- Of the bits of STATUS a reset leaves only that of CHIP_SELECT, which idles HIGH (R28, R39). -/
theorem State.status_applyReset (s : State) : s.applyReset.status = 0x80#8 := by
  simp only [State.status, State.applyReset_lines, State.applyReset_errIllegal, State.applyReset_txnOpen,
    State.busy_applyReset]
  decide

theorem step_of_reset {s : State} (hr : s.resetAsserted = true) : step s = .next s.tick.applyReset :=
  (StepsTo.reset hr).step_eq

/-- Settles O17: reset has priority, so the step is `State.applyReset` whatever else the state holds. -/
theorem resetStep : Obligations.ResetStep := by
  intro s hr
  refine ⟨s.tick.applyReset, step_of_reset hr, rfl, rfl, rfl, rfl, rfl, ?trace, rfl, rfl, rfl, rfl,
    s.tick.status_applyReset⟩
  case trace => rw [State.trace_applyReset, State.trace_tick]

/-! ### The run up to the reset -/

@[simp] theorem State.afterOps_trace (n : Nat) (s : State) :
    (s.afterOps n).trace = s.trace ++ (s.seq.take n).map Event.op := by
  simp [State.trace, State.afterOps]

/-- The accept of a legal command and its first n micro-ops need the reset input LOW only so long (R45): `runFor_of_runs`
for a command that need not come to its end. -/
theorem runFor_of_accepts {s : State} {i : Instr} {n : Nat} (ha : s.Accepts (encode i))
    (hi : i.wellFormed s.numProfiles = true) (hr : s.noResetFor (1 + n) = true) (hn : n ≤ (expand s.profiles i).length) :
    runFor (1 + n) s = .next ((s.tick.takeOffer.acceptInstr i).afterOps n) := by
  rw [Nat.add_comm] at hr ⊢
  rw [State.noResetFor_succ, Bool.and_eq_true] at hr
  obtain ⟨-, hlater⟩ := hr
  rw [runFor_succ_of_next (step_of_legal ha (decode_encode hi))]
  exact runFor_eq_afterOps ha.waitTimer_eq_none hlater hn

theorem State.noResetFor_of_schedule {n : Nat} {later : List Bool} {s : State}
    (h : s.resetSchedule = List.replicate n false ++ later) : s.noResetFor n = true := by
  simp [State.noResetFor, h]

/-- The accept and n micro-steps have consumed 1 + n levels of the reset input. -/
theorem resetSchedule_afterOps_acceptInstr (s : State) (i : Instr) (n : Nat) :
    ((s.tick.takeOffer.acceptInstr i).afterOps n).resetSchedule = s.resetSchedule.drop (1 + n) := by
  simp [State.afterOps, List.drop_tail, Nat.add_comm]

/-- Settles O35: after the accept and n micro-ops the reset input is asserted, and that step is `State.applyReset`. -/
theorem resetCutsCommand : Obligations.ResetCutsCommand := by
  intro s i n later ha hi hn hschedule
  have hrun := runFor_of_accepts ha hi (State.noResetFor_of_schedule hschedule) hn
  have hreset : ((s.tick.takeOffer.acceptInstr i).afterOps n).resetAsserted = true := by
    rw [State.resetAsserted, resetSchedule_afterOps_acceptInstr, hschedule, List.drop_left' List.length_replicate]
    rfl
  refine ⟨_, _, hrun, step_of_reset hreset, ?trace, rfl, rfl, State.status_applyReset _, rfl⟩
  case trace => simp

end Sys2Proof.Machine
end

section
/-! The hazard of DATA changing while CLOCK is HIGH (spec/70_reset_and_hazards.md R176): every sequence that drives DATA more
than once drives CLOCK LOW in between, so only its first Drive of DATA can break the rule, and the levels at entry decide. -/

namespace Sys2Proof.Machine

/-! ### Along a list of micro-ops -/

theorem breaksDataStability_append (L : Lines) (ops ops' : List MicroOp) :
    breaksDataStability L (ops ++ ops') = (breaksDataStability L ops || breaksDataStability (linesAfter L ops) ops') := by
  induction ops generalizing L with
  | nil => rfl
  | cons m ops ih =>
    rw [List.cons_append, breaksDataStability_cons, ih, ← Bool.or_assoc, ← breaksDataStability_cons]
    rfl

theorem changesDataWhileClockHigh_data_iff (L : Lines) (l : Level) :
    changesDataWhileClockHigh L .data l = true ↔ L.clock = .high ∧ l ≠ L.data := by
  rw [changesDataWhileClockHigh_iff, and_iff_right rfl]

theorem changesDataWhileClockHigh_of_clock_low {L : Lines} (h : L.clock = .low) (l : Level) :
    changesDataWhileClockHigh L .data l = false := by
  simp [changesDataWhileClockHigh, h]

/-! ### Bit-cycles (R97) -/

/-- A bit-cycle drives DATA once, at its start. -/
theorem breaksDataStability_bitCycle (L : Lines) (b : Bool) :
    breaksDataStability L (bitCycle b) = changesDataWhileClockHigh L .data (bitLevel b) := by
  simp [bitCycle, breaksDataStability, changesDataWhileClockHigh]

theorem breaksDataStability_bitCycles_of_clock_low {L : Lines} (h : L.clock = .low) (bits : List Bool) :
    breaksDataStability L (bits.flatMap bitCycle) = false := by
  induction bits generalizing L with
  | nil => rfl
  | cons b bits ih =>
    have hlater : breaksDataStability (linesAfter L (bitCycle b)) (bits.flatMap bitCycle) = false := ih rfl
    rw [List.flatMap_cons, breaksDataStability_append, breaksDataStability_bitCycle,
      changesDataWhileClockHigh_of_clock_low h, hlater, Bool.or_false]

/-- Each bit-cycle leaves CLOCK LOW to the next, so only the first can break the rule. -/
theorem breaksDataStability_bitCycles_cons (L : Lines) (b : Bool) (bits : List Bool) :
    breaksDataStability L ((b :: bits).flatMap bitCycle) = changesDataWhileClockHigh L .data (bitLevel b) := by
  have hlater : breaksDataStability (linesAfter L (bitCycle b)) (bits.flatMap bitCycle) = false :=
    breaksDataStability_bitCycles_of_clock_low rfl bits
  rw [List.flatMap_cons, breaksDataStability_append, breaksDataStability_bitCycle, hlater, Bool.or_false]

/-! ### The commands that drive DATA (R96, R104, R114, R120, R128) -/

theorem breaksDataStability_sendByte (L : Lines) (v : Byte) :
    breaksDataStability L (expandSendByte v) = changesDataWhileClockHigh L .data (bitLevel (v.getLsbD 7)) := by
  rw [expandSendByte_eq, lowBits_succ, breaksDataStability_bitCycles_cons]

theorem breaksDataStability_sendRegister (L : Lines) (w : Word) :
    breaksDataStability L (expandSendRegister w) = changesDataWhileClockHigh L .data (bitLevel (w.getLsbD 31)) := by
  have htail : ∀ L, breaksDataStability L latchTail = false := fun _ => rfl
  rw [expandSendRegister_eq, breaksDataStability_append, lowBits_succ, breaksDataStability_bitCycles_cons, htail,
    Bool.or_false]

theorem breaksDataStability_sendRegisters_inside {L : Lines} (h : L.Inside) (ws : List Word) :
    breaksDataStability L (ws.flatMap expandSendRegister) = false := by
  induction ws generalizing L with
  | nil => rfl
  | cons w ws ih =>
    rw [List.flatMap_cons, breaksDataStability_append, breaksDataStability_sendRegister,
      changesDataWhileClockHigh_of_clock_low h.clock, ih (h.sendRegister w), Bool.or_false]

/-- OPEN_TXN drives DATA once, and before it CHIP_SELECT and LATCH_ENABLE only. -/
theorem breaksDataStability_openTxn (L : Lines) :
    breaksDataStability L expandOpenTxn = changesDataWhileClockHigh L .data .low := Bool.or_false _

/-- CLOSE_TXN drives CLOCK LOW before DATA. -/
theorem breaksDataStability_closeTxn (L : Lines) : breaksDataStability L expandCloseTxn = false := by
  simp [expandCloseTxn, breaksDataStability, changesDataWhileClockHigh, Lines.set]

/-- Behind the open bracket every register is entered with CLOCK LOW. -/
theorem breaksDataStability_applyProfile (L : Lines) (p : Profile) :
    breaksDataStability L (expandApplyProfile p) = changesDataWhileClockHigh L .data .low := by
  have hwait : ∀ L k, breaksDataStability L [.wait k] = false := fun _ _ => rfl
  have hinside := inside_openTxn L
  have hfirst : breaksDataStability (linesAfter L expandOpenTxn) (expandSendRegister p.reg5) = false := by
    rw [breaksDataStability_sendRegister, changesDataWhileClockHigh_of_clock_low hinside.clock]
  have hlater := breaksDataStability_sendRegisters_inside (hinside.sendRegister p.reg5) (laterWords p)
  simp only [expandApplyProfile_eq, breaksDataStability_append, breaksDataStability_openTxn, hfirst, hwait,
    linesAfter_wait, hlater, breaksDataStability_closeTxn, Bool.or_false]

/-- Settles O44: each sequence breaks the rule exactly when its first Drive of DATA does, and CLOSE_TXN's comes with CLOCK
LOW. -/
theorem dataStabilityBreachConditions : Obligations.DataStabilityBreachConditions := by
  intro L
  have hlow : changesDataWhileClockHigh L .data .low = true ↔ L.clock = .high ∧ L.data = .high := by
    rw [changesDataWhileClockHigh_data_iff]
    cases L.data <;> simp
  refine ⟨fun sig l => ?setSignal, fun v => ?sendByte, fun w => ?sendRegister, ?openTxn, breaksDataStability_closeTxn L,
    fun p => ?applyProfile⟩
  case setSignal =>
    rw [expandSetSignal, breaksDataStability, breaksDataStability, Bool.or_false, changesDataWhileClockHigh_iff]
  case sendByte => rw [breaksDataStability_sendByte, changesDataWhileClockHigh_data_iff]
  case sendRegister => rw [breaksDataStability_sendRegister, changesDataWhileClockHigh_data_iff]
  case openTxn => rw [breaksDataStability_openTxn, hlow]
  case applyProfile => rw [breaksDataStability_applyProfile, hlow]

end Sys2Proof.Machine
end

section
/-! The nominal wait of each command (spec/70_reset_and_hazards.md R188): eight microseconds for a bit-cycle, and the rest by
addition. -/

namespace Sys2Proof.Machine

/-! ### The parts of the sequences -/

theorem nominalTotal_nil : nominalTotal [] = 0 := rfl

theorem nominalTotal_append (ops ops' : List MicroOp) :
    nominalTotal (ops ++ ops') = nominalTotal ops + nominalTotal ops' := by
  rw [nominalTotal, waitsOf_append, List.map_append, List.sum_append]
  rfl

theorem nominalTotal_wait (k : WaitKind) : nominalTotal [.wait k] = nominalMicros k := Nat.add_zero _

theorem nominalTotal_bitCycle (b : Bool) : nominalTotal (bitCycle b) = 8 := rfl

theorem nominalTotal_bitCycles (bits : List Bool) : nominalTotal (bits.flatMap bitCycle) = bits.length * 8 := by
  induction bits with
  | nil => rfl
  | cons b bits ih =>
    rw [List.flatMap_cons, nominalTotal_append, nominalTotal_bitCycle, ih, List.length_cons]
    omega

/-! ### The commands -/

theorem nominalTotal_sendByte (v : Byte) : nominalTotal (expandSendByte v) = 64 := by
  rw [expandSendByte_eq, nominalTotal_bitCycles, length_lowBits]

theorem nominalTotal_sendRegister (w : Word) : nominalTotal (expandSendRegister w) = 270 := by
  have htail : nominalTotal latchTail = 14 := rfl
  rw [expandSendRegister_eq, nominalTotal_append, nominalTotal_bitCycles, length_lowBits, htail]

theorem nominalTotal_openTxn : nominalTotal expandOpenTxn = 28 := rfl

theorem nominalTotal_closeTxn : nominalTotal expandCloseTxn = 22 := rfl

/-- The brackets' 50, 270 for each of six registers, and the two settles. -/
theorem nominalTotal_applyProfile (p : Profile) : nominalTotal (expandApplyProfile p) = 31670 := by
  simp only [expandApplyProfile_eq, laterWords, List.flatMap_cons, List.flatMap_nil, nominalTotal_append, nominalTotal_nil,
    nominalTotal_openTxn, nominalTotal_sendRegister, nominalTotal_wait, nominalTotal_closeTxn, nominalMicros]

theorem nominalTotal_delayMs (store : List Profile) (n : Word) :
    nominalTotal (expand store (.delayMs n)) = 1000 * n.toNat := nominalTotal_wait (.ms n)

/-! ### The host's units (R142, R143) -/

theorem nominalTotal_rotateUnit {store : List Profile} {k : Byte} {p : Profile} (h : store[k.toNat]? = some p) :
    nominalTotal ((rotateUnit k).flatMap (expand store)) = 31670 + 10000000 := by
  rw [rotateUnit, dwellDelay, List.flatMap_cons, List.flatMap_singleton, nominalTotal_append, expand_applyProfile h,
    nominalTotal_applyProfile, nominalTotal_delayMs]
  rfl

/-- BRINGUP is the power-up delay and then a rotate step's commands. -/
theorem nominalTotal_bringupUnit {store : List Profile} {k : Byte} {p : Profile} (h : store[k.toNat]? = some p) :
    nominalTotal ((bringupUnit k).flatMap (expand store)) = 1000000 + 31670 + 10000000 := by
  have hunit : bringupUnit k = powerUpDelay :: rotateUnit k := rfl
  rw [hunit, List.flatMap_cons, nominalTotal_append, nominalTotal_rotateUnit h, powerUpDelay, nominalTotal_delayMs]
  rfl

/-- Settles O48. -/
theorem nominalWaitPerCommand : Obligations.NominalWaitPerCommand := by
  intro store k p hp
  refine ⟨fun sig l => ⟨rfl, rfl⟩, fun n => ⟨rfl, nominalTotal_wait (.us n)⟩, fun n => ⟨rfl, nominalTotal_delayMs store n⟩,
    fun v => ⟨expandSendByte_length v, nominalTotal_sendByte v⟩,
    fun w => ⟨expandSendRegister_length w, nominalTotal_sendRegister w⟩, ⟨rfl, nominalTotal_openTxn⟩,
    ⟨rfl, nominalTotal_closeTxn⟩, ?applyProfile, nominalTotal_bringupUnit hp, nominalTotal_rotateUnit hp⟩
  case applyProfile =>
    rw [expand_applyProfile hp]
    exact ⟨expandApplyProfile_length p, nominalTotal_applyProfile p⟩

end Sys2Proof.Machine
end
